-- ==== Sys2Proof/Word.lean ====
section
/-! DEFINITION. Words, bytes, and the shapes of the data that a command brings: characters of a serial
line and the answers of the host bus. -/

namespace Sys2Proof

/-- One byte of host memory or one data character. -/
abbrev Byte := BitVec 8

/-- A 32-bit register or count. -/
abbrev Word32 := BitVec 32

/-- One received 9-bit character: its low eight bits, its marker (the ninth bit), and whether its stop
bit was there (R43, R157). -/
structure LineChar where
  data : Byte
  marker : Bool
  stop : Bool
  deriving DecidableEq, Repr

/-- How the reading of a cell or of the live configuration ended (R29): the first reading of the lead
count, the burst of body and tail count, and the second reading of the lead count; or a bus error. -/
inductive TakeRead where
  | read (lead : Word32) (burst : List Byte) (again : Word32)
  | busError
  deriving DecidableEq, Repr

/-- How a fill's sequence ended (R127, R128): the directory entry's address and length and the item
bytes read (none are read where the length is out of range); or a bus error. -/
inductive FillRead where
  | read (address : BitVec 48) (length : BitVec 16) (body : List Byte)
  | busError
  deriving DecidableEq, Repr

/-- The plain sequences' answers: the value read, or `none` for a bus error. -/
abbrev WordRead := Option Word32

/-- The bytes of a block read, or `none` for a bus error. -/
abbrev BlockRead := Option (List Byte)

end Sys2Proof
end

