-- ==== Sys2Proof/Config.lean ====
section
/-! DEFINITION. The values the spec leaves open: opaque, so that no proof can see what they are. -/

namespace Sys2Proof

/-- Byte `place` (0 to 239) of built-in item 4088 + `item` in the part's ROM (R156): the spec says that
each of the eight items has 240 bytes and gives none of them (log 16, safe). -/
opaque Config.builtinByte (item place : Nat) : Byte

/-- The n-th fresh open value: used where a rule gives an event its effect and leaves one of its values
unstated (log 15, safe). -/
opaque Config.freeValue (n : Nat) : Nat

end Sys2Proof
end

