-- ==== Sys2Proof/Syntax.lean ====
section
/-! DEFINITION. The commands: one constructor for each row of spec/opcode_table.json, in the table's
order, with the row's operands. -/

namespace Sys2Proof

/-- The 64 operations and events of the hub. -/
inductive Instr where
  /-- POWER_ON_RESET (R25). -/
  | powerOnReset
  /-- SOFT_RESET (R25): a CONTROL write with RESET at 1; the RUN bit written with it. -/
  | softReset (runBit : Bool)
  /-- RUN (R22): a CONTROL write with RESET at 0; the RUN bit written. -/
  | run (runBit : Bool)
  /-- ANCHOR_LO_WRITE (R20). -/
  | anchorLoWrite (value : Word32)
  /-- ANCHOR_HI_WRITE (R20). -/
  | anchorHiWrite (value : Word32)
  /-- NUDGE_CELLS (R26). -/
  | nudgeCells
  /-- NUDGE_ANSWERS (R26). -/
  | nudgeAnswers
  /-- NUDGE_OVERRIDES (R26). -/
  | nudgeOverrides
  /-- NUDGE_LIVE (R26). -/
  | nudgeLive
  /-- NUDGE_SUPPLY (R26). -/
  | nudgeSupply
  /-- NUDGE_FLUSH (R102). -/
  | nudgeFlush
  /-- CAUSE_WRITE (R179). -/
  | causeWrite (value : Word32)
  /-- CAUSE_MASK_WRITE (R180). -/
  | causeMaskWrite (value : Word32)
  /-- REGISTER_WRITE_OTHER (R20): offset in the window, width in bits, value. -/
  | registerWriteOther (offset width : Nat) (value : Word32)
  /-- STOPPING_END (R24). -/
  | stoppingEnd
  /-- PORT_GRANT (R40). -/
  | portGrant
  /-- HEADER_READ (R23): the 256 bytes of the header. -/
  | headerRead (answer : BlockRead)
  /-- LABEL_TABLE_READ (R54): the bytes of the table in flight. -/
  | labelTableRead (answer : BlockRead)
  /-- GROUP_COUNTER_READ (R32). -/
  | groupCounterRead (answer : WordRead)
  /-- CELL_TAKE (R30): the burst is the cell from byte 4 on. -/
  | cellTake (answer : TakeRead)
  /-- ANSWER_SEED_READ (R35). -/
  | answerSeedRead (answer : WordRead)
  /-- LIVE_TAKE (R28): the burst runs from Board offset 0x0104 to 0x035F. -/
  | liveTake (answer : TakeRead)
  /-- SUPPLY_COUNT_READ (R98). -/
  | supplyCountRead (answer : WordRead)
  /-- SCAN_INTERVAL_EXPIRY (R34). -/
  | scanIntervalExpiry
  /-- SUPPLY_SCAN_REQUEST (R98). -/
  | supplyScanRequest
  /-- MIRROR_WRITE (R38): whether the write succeeded. -/
  | mirrorWrite (ok : Bool)
  /-- PAGE_DRAW (R97): the 8-byte slot value, `none` for a bus error. -/
  | pageDraw (answer : Option (BitVec 64))
  /-- OPEN_WRITE (R100). -/
  | openWrite (ok : Bool)
  /-- RECORD_WRITE (R101). -/
  | recordWrite (ok : Bool)
  /-- CLOSE_WRITE (R103). -/
  | closeWrite (ok : Bool)
  /-- FLUSH_AGE_EXPIRY (R102). -/
  | flushAgeExpiry (route : Fin 8)
  /-- ROUTE_STOP_POINT (R106). -/
  | routeStopPoint (route : Fin 8)
  /-- PRESENCE_CHECK_EXPIRY (R176). -/
  | presenceCheckExpiry
  /-- HEARTBEAT_READ (R176). -/
  | heartbeatRead (answer : WordRead)
  /-- CAR_TELEGRAM (R44): the characters of the link that end a telegram. -/
  | carTelegram (link : Fin 8) (chars : List LineChar)
  /-- CAR_TELEGRAM_BROKEN (R43): the character that breaks the telegram in progress. -/
  | carTelegramBroken (link : Fin 8) (char : LineChar)
  /-- CAR_STALE_EXPIRY (R47). -/
  | carStaleExpiry (car : Fin 64)
  /-- CAR_LOST_EXPIRY (R47). -/
  | carLostExpiry (car : Fin 64)
  /-- LANTERN_TIME_EXPIRY (R57). -/
  | lanternTimeExpiry (display : Fin 512)
  /-- EXPECTATION_EXPIRY (R59). -/
  | expectationExpiry (display : Fin 512)
  /-- ENTRY_TIMEOUT_EXPIRY (R68). -/
  | entryTimeoutExpiry (slot : Fin 128)
  /-- ANSWER_TIMEOUT_EXPIRY (R80). -/
  | answerTimeoutExpiry (slot : Fin 128)
  /-- HOLD_TIME_EXPIRY (R72). -/
  | holdTimeExpiry (slot : Fin 128)
  /-- FIRE_LINE (R111). -/
  | fireLine (line : Fin 4)
  /-- RECOMPOSE (R11). -/
  | recompose (display : Fin 512)
  /-- FILL (R127). -/
  | fill (answer : FillRead)
  /-- QUARANTINE_EXPIRY (R129). -/
  | quarantineExpiry (item : Nat)
  /-- SUPPLY_FAULT (R144). -/
  | supplyFault (string : Fin 16)
  /-- SETTLE_EXPIRY (R140). -/
  | settleExpiry (string : Fin 16)
  /-- WAKE_SENT (R140). -/
  | wakeSent (string : Fin 16)
  /-- WAKE_TIME_EXPIRY (R140). -/
  | wakeTimeExpiry (string : Fin 16)
  /-- SLEEP_SENT (R143). -/
  | sleepSent (string : Fin 16)
  /-- SYNC (R151). -/
  | sync (string : Fin 16)
  /-- SHOW (R159). -/
  | showPlan (string : Fin 16)
  /-- POLL (R159). -/
  | poll (string : Fin 16)
  /-- ENUMERATE (R159). -/
  | enumerate (string : Fin 16)
  /-- TELEGRAM_SENT (R157). -/
  | telegramSent (string : Fin 16)
  /-- PANEL_REPLY (R158): the characters received. -/
  | panelReply (string : Fin 16) (chars : List LineChar)
  /-- REPLY_TIMEOUT (R157). -/
  | replyTimeout (string : Fin 16)
  /-- SWEEP_INTERVAL_EXPIRY (R147). -/
  | sweepIntervalExpiry (string : Fin 16)
  /-- FAULT_HOLD_EXPIRY (R145). -/
  | faultHoldExpiry (string : Fin 16)
  /-- CADENCE_TICK (R169). -/
  | cadenceTick (channel : Fin 16)
  /-- CADENCE_UNDERFLOW (R169). -/
  | cadenceUnderflow (channel : Fin 16)
  /-- FIRE_PIN_CHANGE (R111): the level the pin takes. -/
  | firePinChange (line : Fin 4) (asserted : Bool)
  deriving DecidableEq, Repr

end Sys2Proof
end

