-- ==== Sys2Proof/WellFormed.lean ====
section
/-! DEFINITION. What data the bus and the lines can bring with a command: the sizes the spec gives each
read, and which register accesses are REGISTER_WRITE_OTHER. The meanings are total and do not need it. -/

namespace Sys2Proof

/-- The offsets the register window takes 32-bit accesses at (R20). -/
def registerOffsets : List Nat := [0x00, 0x04, 0x08, 0x0C, 0x10, 0x14]

/-- A command as the part can meet it: block reads have the sizes of the Board formats (R27, R54), cell
bursts those of the cells (R29), a fill's body the length its entry gives (R127, R128), and
REGISTER_WRITE_OTHER lies in the 0x18-byte window and is no 32-bit access at a register (R20). -/
def Instr.wellFormed : Instr → Bool
  | .headerRead (some bytes) => bytes.length == 256
  | .labelTableRead (some bytes) => bytes.length == 1024 || bytes.length == 128
  | .cellTake (.read _ burst _) => burst.length == 28 || burst.length == 12
  | .liveTake (.read _ burst _) => burst.length == 604
  | .fill .busError => true
  | .fill (.read _ length body) =>
      body.length == (if 1 ≤ length.toNat ∧ length.toNat ≤ 240 then length.toNat else 0)
  | .registerWriteOther offset width _ =>
      decide (offset < 0x18) && !(width == 32 && registerOffsets.contains offset)
  | .carTelegram _ chars => !chars.isEmpty
  | .panelReply _ chars => !chars.isEmpty
  | .carTelegramBroken _ char => char.marker || !char.stop
  | .quarantineExpiry item => decide (item < 4088)
  | .headerRead none | .labelTableRead none | .cellTake .busError | .liveTake .busError
  | .powerOnReset | .softReset .. | .run .. | .anchorLoWrite .. | .anchorHiWrite .. | .nudgeCells
  | .nudgeAnswers | .nudgeOverrides | .nudgeLive | .nudgeSupply | .nudgeFlush | .causeWrite ..
  | .causeMaskWrite .. | .stoppingEnd | .portGrant | .groupCounterRead .. | .answerSeedRead ..
  | .supplyCountRead .. | .scanIntervalExpiry | .supplyScanRequest | .mirrorWrite ..
  | .pageDraw .. | .openWrite .. | .recordWrite .. | .closeWrite .. | .flushAgeExpiry .. | .routeStopPoint ..
  | .presenceCheckExpiry | .heartbeatRead .. | .carStaleExpiry .. | .carLostExpiry ..
  | .lanternTimeExpiry .. | .expectationExpiry .. | .entryTimeoutExpiry ..
  | .answerTimeoutExpiry .. | .holdTimeExpiry .. | .fireLine .. | .recompose .. | .supplyFault ..
  | .settleExpiry .. | .wakeSent .. | .wakeTimeExpiry .. | .sleepSent .. | .sync ..
  | .showPlan .. | .poll .. | .enumerate .. | .telegramSent .. | .replyTimeout ..
  | .sweepIntervalExpiry .. | .faultHoldExpiry .. | .cadenceTick .. | .cadenceUnderflow ..
  | .firePinChange .. => true

end Sys2Proof
end

