-- ==== Sys2Proof/Machine/Types.lean ====
section
/-! DEFINITION. The records of the hub's blocks, field by field as the chapters' tables list them. -/

namespace Sys2Proof.Machine

/-! ## Device (files 02 and 11) -/

/-- The device state (R22). -/
inductive DeviceState where
  | idle | loading | running | stopping
  deriving DecidableEq, Repr

/-- The step of LOADING whose work is still to end (R23); `outside` when not in LOADING. The steps 3
and 4 are checks on what step 2 read, step 6 is two reads. -/
inductive LoadStep where
  | outside | header | live | floorLabels | carLabels | supplyCount | preFill | firstScan
  deriving DecidableEq, Repr

/-- The start-fault code (R23, R181). -/
inductive StartFault where
  | clear | tag | range | bus | labels | routing
  deriving DecidableEq, Repr

/-- Dispatch presence (R175). -/
inductive Presence where
  | waitingFirst | attached | detachedHeartbeat | detachedBoard
  deriving DecidableEq, Repr

/-- The writable registers of the window but for CAUSE (R20, R21, R180). -/
structure Window where
  anchorLo : Word32
  anchorHi : Word32
  runBit : Bool
  mask : BitVec 15
  deriving DecidableEq, Repr

/-- The device as a whole: its state, the LOADING step, the start-fault code, the device time, the Board
address held since LOADING began (R20), and whether BOARD_LOST stood at entry to STOPPING or has been set
since (R24). -/
structure Device where
  state : DeviceState
  load : LoadStep
  startFault : StartFault
  time : Word32
  board : BitVec 64
  stopLost : Bool
  deriving DecidableEq, Repr

/-- The settings of the header (R27, Board formats). -/
structure HeaderSettings where
  detachCount : Nat
  reattachCount : Nat
  scanInterval : Nat
  checkInterval : Nat
  entryTimeout : Nat
  holdTime : Nat
  lanternTime : Nat
  carLostTime : Nat
  answerTimeout : Nat
  expectationTimeout : Nat
  carStaleTime : Nat
  flushAge : Nat
  supplyBase : Word32
  carMask : BitVec 64
  contentDirectory : BitVec 64
  floorLabelTable : BitVec 64
  carLabelTable : BitVec 64
  deriving DecidableEq, Repr

/-! ## Bus-master port (file 02) -/

/-- The five areas of the scanner (R33). -/
inductive Area where
  | cells | answers | overrides | live | supply
  deriving DecidableEq, Repr

/-- The five claimants of the port, in the arbiter's cyclic order (R40). -/
inductive Claimant where
  | pageEngine | fillEngine | scanner | heartbeatReader | mirrorWriter
  deriving DecidableEq, Repr

/-- One access sequence (the table of R40). -/
inductive Access where
  | headerRead
  | floorLabelRead
  | carLabelRead
  | counterRead (area : Area) (group : Nat)
  | cellTake (area : Area) (cell : Nat)
  | seedRead (cell : Nat)
  | liveTake
  | supplyRead
  | heartbeatRead
  | fill (slot item : Nat)
  | mirrorWrite (record : Nat)
  /-- A read of the supply slot; the page drawn becomes the route's open page or its successor. -/
  | pageDraw (route : Nat) (asOpen : Bool)
  | openWrite (route : Nat)
  | recordWrite (route : Nat)
  /-- A close write: the dropped count it carries and whether its next address is the successor's. -/
  | closeWrite (route : Nat) (carried : Nat) (toSuccessor : Bool)
  deriving DecidableEq, Repr

/-- One transfer on the host bus, at a byte address: the bytes of a write stand in address order. -/
inductive BusOp where
  | read (address : BitVec 64) (length : Nat)
  | write (address : BitVec 64) (bytes : List Byte)
  deriving DecidableEq, Repr

/-- The access sequence that holds the port: what it is, its transfers in order, and whether its result
is to be discarded (R22, R25, R137, R176). -/
structure InFlight where
  access : Access
  ops : List BusOp
  discarded : Bool
  deriving DecidableEq, Repr

/-- The port, the arbiter and the Board failure count (R40, R41, R42). -/
structure Port where
  inFlight : Option InFlight
  lastGranted : Claimant
  failures : Nat
  boardLost : Bool
  deriving DecidableEq, Repr

/-! ## Scanner (file 02) -/

/-- Idle, requested or in flight (R33). -/
inductive AreaPhase where
  | idle | requested | inFlight
  deriving DecidableEq, Repr

/-- An area's condition with its rescan-pending flag (R33, R26). -/
structure AreaCondition where
  phase : AreaPhase
  rescan : Bool
  deriving DecidableEq, Repr

/-- Where the scan in flight stands, that is, its next access sequence (R32, R33, R35). -/
inductive ScanPlace where
  | counter (area : Area) (group : Nat)
  /-- Cell `index` (0 to 31) of the group; the counter value read before the takes, and whether every
  take so far was clean. -/
  | cell (area : Area) (group index : Nat) (counter : Word32) (clean : Bool)
  | seed (group index : Nat)
  | live
  | supply
  deriving DecidableEq, Repr

/-- The verdict of the live configuration in the device record (R28, R182). -/
inductive LiveVerdict where
  | unset | accepted | range | routing
  deriving DecidableEq, Repr

/-- The scanner and the counts of R28, R30 and R32. Cells are numbered over the three areas: display
cells 0 to 511, answer cells 512 to 639, override cells 640 to 671; groups 0 to 15, 16 to 19, 20. -/
structure Scanner where
  areas : Vector AreaCondition 5
  lastScanned : Area
  place : Option ScanPlace
  timer : Option Nat
  liveRetry : Bool
  taken : Vector Word32 672
  torn : Vector Nat 672
  seen : Vector (Option Word32) 21
  liveTaken : Word32
  liveTorn : Nat
  liveVerdict : LiveVerdict
  deriving DecidableEq, Repr

/-! ## Mirror (file 02) -/

/-- Verdicts of a receipt (Board formats). -/
inductive Verdict where
  | unset | accepted | rejected | used | late
  deriving DecidableEq, Repr

/-- Reasons of a receipt (Board formats). -/
inductive Reason where
  | unset | range | car | dupPanel | dupSlot | type
  deriving DecidableEq, Repr

/-- A receipt (R30). -/
structure Receipt where
  count : Word32
  verdict : Verdict
  reason : Reason
  deriving DecidableEq, Repr

/-- The records of the mirror (R37). -/
inductive MirrorRecord where
  | receipt (cell : Nat)
  | keypad (slot : Nat)
  | car (car : Nat)
  | panel (panel : Nat)
  | string (string : Nat)
  | route (route : Nat)
  | device
  deriving DecidableEq, Repr

/-- The dirty set, one flag for each of 1401 places in ascending Board offset (672 receipts, 128 keypads,
64 cars, 512 panels of which the 16 of address 0 are never set, 16 strings, 8 routes, the device record);
the place where the next search begins; the receipts; and the write counts of R39. -/
structure Mirror where
  dirty : Vector Bool 1401
  next : Nat
  receipts : Vector Receipt 672
  carWrites : Vector Word32 64
  routeWrites : Vector Word32 8
  deriving DecidableEq, Repr

/-! ## Display Directory and Composition Unit (file 01) -/

inductive Deck where
  | lower | upper
  deriving DecidableEq, Repr

/-- The kind of a display with the binding fields of that kind (the second table of file 01). -/
inductive Binding where
  | unused
  | carPosition (car : Nat) (deck : Deck)
  | hallLantern (car floor : Nat)
  | lobbyOverview (cars : List Nat)
  | keypad (slot floor : Nat)
  | free
  deriving DecidableEq, Repr

/-- The binding status (R1). -/
inductive BindStatus where
  | unbound | bound | rejectedType
  deriving DecidableEq, Repr

/-- A display record (R1). `template` is `none` for 0xFFFF; brightness 0 is AUTO. -/
structure DisplayRecord where
  status : BindStatus
  binding : Binding
  string : Nat
  address : Nat
  zone : Nat
  template : Option Nat
  timer : Nat
  brightness : Nat
  enable : Bool
  assist : Bool
  deriving DecidableEq, Repr

/-- A frame plan (file 01): the item, field bytes 0 to 9, the banner slot (`none` for 0xFFFF), the timer
index, the brightness and the content-pending flag. -/
structure Plan where
  item : Nat
  fields : List Byte
  banner : Option Nat
  timer : Nat
  brightness : Nat
  pending : Bool
  deriving DecidableEq, Repr

/-- What a display waits on in the Content Store (R13, R14, R16). -/
inductive Wait where
  | nothing
  | fill (item : Nat)
  | anyFill
  | release (item : Nat)
  deriving DecidableEq, Repr

/-- Why a display awaits recomposition, as far as R10 asks: a keypad session or lantern record change,
and a fill completion. -/
structure Ask where
  urgent : Bool
  fill : Bool
  deriving DecidableEq, Repr

/-- What CMP keeps for one display (R8, R9, R13). -/
structure Composition where
  plan : Plan
  stamp : BitVec 16
  wait : Wait
  asked : Option Ask
  deriving DecidableEq, Repr

/-! ## Car Link Unit (file 03) -/

/-- A link receiver (R43): HUNT, or COLLECTING with the header's low eight bits and 0 to 6 data
characters. -/
inductive Receiver where
  | hunt
  | collecting (header : Byte) (data : List Byte)
  deriving DecidableEq, Repr

/-- A link: its receiver and its error count (R44). -/
structure Link where
  receiver : Receiver
  errors : Nat
  deriving DecidableEq, Repr

inductive CarState where
  | unheard | fresh | stale | lost
  deriving DecidableEq, Repr

inductive Motion where
  | stopped | moving | levelling
  deriving DecidableEq, Repr

inductive Direction where
  | still | up | down
  deriving DecidableEq, Repr

inductive Door where
  | closed | opening | opened | closing
  deriving DecidableEq, Repr

inductive CarMode where
  | normal | independent | fireService | outOfService
  deriving DecidableEq, Repr

/-- The fields of a car telegram (places 1 to 6) once checked (R44). -/
structure Telegram where
  sequence : Nat
  lower : Nat
  upper : Nat
  motion : Motion
  direction : Direction
  door : Door
  mode : CarMode
  full : Bool
  deriving DecidableEq, Repr

/-- A car record (file 03, "Car records"); its state NONE is `unheard`. -/
structure Car where
  state : CarState
  lower : Nat
  upper : Nat
  lowerShown : Option Nat
  upperShown : Option Nat
  motion : Motion
  direction : Direction
  door : Door
  mode : CarMode
  full : Bool
  sequence : Nat
  gaps : Nat
  lastTime : Word32
  deriving DecidableEq, Repr

inductive LanternState where
  | dark | expected | arriving
  deriving DecidableEq, Repr

/-- A lantern record (file 03, "Lantern records"). -/
structure Lantern where
  car : Nat
  floor : Nat
  state : LanternState
  expected : Nat
  remaining : Option Nat
  lastIncrement : Word32
  direction : Direction
  deriving DecidableEq, Repr

/-- The Car Link Unit; lantern records stand at their display's index. -/
structure Clu where
  links : Vector Link 8
  cars : Vector Car 64
  lanterns : Vector (Option Lantern) 512
  floorLabels : Vector (List Byte) 256
  carLabels : Vector (List Byte) 64
  deriving DecidableEq, Repr

/-! ## Destination Request Unit (file 04) -/

inductive SessionState where
  | idle | entering | waiting | showing | refused | fallback | invalid | blocked
  deriving DecidableEq, Repr

inductive Refusing where
  | unset | notServed | restricted
  deriving DecidableEq, Repr

inductive FallbackReason where
  | unset | noAnswer | busy | detached
  deriving DecidableEq, Repr

inductive RetiredKind where
  | answered | withdrawn | reported
  deriving DecidableEq, Repr

inductive Withdrawal where
  | clear | unbound | evac | offline | noAnswer | detached
  deriving DecidableEq, Repr

/-- A keypad session (file 04). `display` is the record that holds the slot while `bound` is set; the
session's origin floor, zone and ACCESS assist flag are that record's. Ticket 0 is none. -/
structure Session where
  bound : Bool
  display : Nat
  state : SessionState
  digits : List Nat
  access : Bool
  destination : Option Nat
  ticket : Nat
  route : Option Nat
  redirected : Bool
  car : Nat
  deck : Deck
  refusal : Refusing
  fallback : FallbackReason
  evac : Bool
  offline : Bool
  timer : Option Nat
  retiredTicket : Nat
  retiredRoute : Option Nat
  retiredKind : RetiredKind
  withdrawal : Withdrawal
  deriving DecidableEq, Repr

structure Drq where
  sessions : Vector Session 128
  lastTicket : Nat
  deriving DecidableEq, Repr

/-! ## Event Route Unit (file 05) -/

/-- The event kinds (R88). -/
inductive EventKind where
  | destRequest | destCancel | answerLate
  | carArrival | carLost | carBack | carMode
  | panelOffline | panelBack | panelType
  | stringState | stringFault
  | contentFault | pinRefused
  | presence | fireLine | cellStuck
  deriving DecidableEq, Repr

/-- An event as its producer offers it (R87): the class/zone field, the source id, the ticket, the
payload bytes named for its kind, and the timestamp. -/
structure Event where
  kind : EventKind
  cls : Nat
  source : Nat
  ticket : Nat
  payload : List Byte
  time : Word32
  deriving DecidableEq, Repr

inductive RouteMode where
  | off | single | rotate
  deriving DecidableEq, Repr

/-- A routing table entry (file 05). -/
structure RouteEntry where
  mode : RouteMode
  target : Nat
  mask : Byte
  cursor : Nat
  deriving DecidableEq, Repr

inductive CloseReason where
  | full | age | flush | stop
  deriving DecidableEq, Repr

/-- A route record (file 05); page addresses are bits 47:8; `stopped` says that the route has reached
its stop point (R106). -/
structure Route where
  enabled : Bool
  staging : List Event
  openPage : Option (BitVec 40)
  openWritten : Bool
  records : Nat
  firstTime : Word32
  closing : Option CloseReason
  successor : Option (BitVec 40)
  serial : Word32
  chain : BitVec 16
  chainHead : Option (BitVec 40)
  dropped : Nat
  droppedTotal : Nat
  stopped : Bool
  deriving DecidableEq, Repr

/-- The ERU; `requestHold` is the time left before it may request SUPPLY again (R98). -/
structure Eru where
  table : Vector RouteEntry 40
  routes : Vector Route 8
  drawn : Word32
  lastRead : Word32
  lastServed : Nat
  requestHold : Nat
  deriving DecidableEq, Repr

/-! ## Override Unit (file 06) -/

inductive Priority where
  | clear | notice | service | evacuate
  deriving DecidableEq, Repr

/-- A zone record (file 06); the line sources in ascending order. -/
structure Zone where
  hostPriority : Priority
  hostItem : Option Nat
  sources : List Nat
  priority : Priority
  item : Option Nat
  deriving DecidableEq, Repr

/-- A fire-service line (file 06), its pin's level, and whether its fiftieth differing sample in a row
has been taken and its change of state has not (R111). -/
structure FireLine where
  pin : Bool
  asserted : Bool
  stable : Nat
  changeDue : Bool
  mapMask : Word32
  mapItem : Nat
  resolved : Nat
  substituted : Bool
  deriving DecidableEq, Repr

/-- OVR, with the fire substitution flags of the device record (R113, R182). -/
structure Ovr where
  zones : Vector Zone 32
  lines : Vector FireLine 4
  flags : Vector Bool 4
  deriving DecidableEq, Repr

/-! ## Content Store (file 07) -/

inductive SlotState where
  | empty | filling | valid
  deriving DecidableEq, Repr

/-- A slot of the Content Store (file 07); slot (s, w) stands at s × 16 + w; the length of the held item
is the number of its bytes. -/
structure Slot where
  state : SlotState
  item : Option Nat
  pinned : Bool
  refillWanted : Bool
  refetch : Bool
  length : Nat
  bytes : List Byte
  deriving DecidableEq, Repr

/-- A fill queue entry (R126): its slot and item, REFILL or FILL, whether it is a pre-fill (R136), and
whether it has been started. -/
structure FillEntry where
  slot : Nat
  item : Nat
  refill : Bool
  preFill : Bool
  started : Bool
  deriving DecidableEq, Repr

/-- A quarantined id with its remaining time in ms (R129). -/
structure BadId where
  item : Nat
  remaining : Nat
  deriving DecidableEq, Repr

/-- A lock window (R130). -/
structure LockWindow where
  valid : Bool
  base : BitVec 16
  mask : BitVec 16
  deriving DecidableEq, Repr

/-- The CST; each recency list holds ways, most recently used first (R123). -/
structure Cst where
  slots : Vector Slot 64
  recency : Vector (List Nat) 4
  queue : List FillEntry
  badIds : List BadId
  windows : Vector LockWindow 4
  purgeSerial : Word32
  fills : Word32
  misses : Word32
  deriving DecidableEq, Repr

/-! ## String Controllers (files 08 and 09) -/

inductive StringState where
  | off | powering | waking | enumerating | running | draining | parking | fault | faultLocked
  deriving DecidableEq, Repr

/-- The nine settings of a string (file 08). -/
structure StringSettings where
  runRequest : Bool
  halt : Bool
  rateCode : Nat
  threshold : Nat
  replyTimeout : Nat
  probeInterval : Nat
  sweepInterval : Nat
  settleTime : Nat
  wakeTime : Nat
  deriving DecidableEq, Repr

inductive SlotStatus where
  | ready | active | good | noReply | badReply | skipped
  deriving DecidableEq, Repr

/-- One slot of a sweep. -/
structure SweepSlot where
  address : Nat
  status : SlotStatus
  deriving DecidableEq, Repr

/-- The sweep in progress (R146): its slots, whether it is a probe sweep, and the policy it holds. -/
structure Sweep where
  slots : List SweepSlot
  probe : Bool
  halt : Bool
  deriving DecidableEq, Repr

/-- The commands of a telegram (R155). -/
inductive Command where
  | show | poll | enumerate | wake | sleep | sync
  deriving DecidableEq, Repr

/-- What made a visit: a step of the enumeration pass, an urgent visit, or a sweep slot (R159). -/
inductive Origin where
  | pass | urgent | slot
  deriving DecidableEq, Repr

/-- A visit in flight: its panel's address, command and origin, the sent stamp of R160, and whether the
panel has stayed in the schedule since its start (R152). -/
structure Visit where
  address : Nat
  command : Command
  origin : Origin
  stamp : BitVec 16
  stayed : Bool
  deriving DecidableEq, Repr

/-- What a string's line carries (R148, R157): nothing; a telegram with its characters, of a visit or a
broadcast (`none`); or the reply window of a visit, with the characters collected, the reply timeout as it
stood when the window opened, and the time left. -/
inductive Line where
  | free
  | sending (command : Command) (chars : List (BitVec 9)) (visit : Option Visit)
  | window (visit : Visit) (got : List Byte) (timeout remaining : Nat)
  deriving DecidableEq, Repr

/-- A string record (file 08). -/
structure PanelString where
  state : StringState
  supply : Bool
  driver : Bool
  rate : Nat
  faults : Nat
  schedule : List Nat
  sweepNumber : Word32
  sweep : Option Sweep
  urgent : List Nat
  syncPending : Bool
  overruns : Word32
  completed : Word32
  settle : Option Nat
  wake : Option Nat
  hold : Option Nat
  sweepTimer : Option Nat
  settings : StringSettings
  /-- The wake time taken at entry to WAKING (settings table of file 08). -/
  wakeTaken : Nat
  /-- The last address the enumeration pass has visited (R141). -/
  visited : Nat
  /-- An overrun sweep's successor starts as soon as it ends (R147). -/
  nextOwed : Bool
  /-- The run has fallen in WAKING or ENUMERATING and PARKING follows (R143). -/
  parkOwed : Bool
  line : Line
  deriving DecidableEq, Repr

inductive Health where
  | unseen | present | degraded | offline
  deriving DecidableEq, Repr

/-- A panel record (file 09); an invalid shown stamp and an unknown light level are `none`. -/
structure Panel where
  health : Health
  misses : Nat
  shown : Option (BitVec 16)
  keyAck : Nat
  light : Option Nat
  deriving DecidableEq, Repr

/-- The STC; panel records stand at string × 32 + address. -/
structure Stc where
  strings : Vector PanelString 16
  panels : Vector Panel 512
  deriving DecidableEq, Repr

/-! ## Cadence Timers (file 10) -/

inductive TickSource where
  | ms1 | ms10 | ms100
  deriving DecidableEq, Repr

inductive PendingRun where
  | unset | start | stop
  deriving DecidableEq, Repr

/-- The settings of a channel (file 10, Board formats). -/
structure ChannelSettings where
  reload : Nat
  compare : Nat
  source : TickSource
  cascade : Bool
  run : Bool
  serial : Nat
  deriving DecidableEq, Repr

/-- A channel (file 10). In a cascaded pair the lower channel holds the pair's 16-bit count and its phase
(R172). `owed` counts the ticks of its source that it has not counted yet. -/
structure Channel where
  settings : ChannelSettings
  running : Bool
  pending : PendingRun
  count : Nat
  phase : Bool
  owed : Nat
  deriving DecidableEq, Repr

/-! ## Dispatch Presence Monitor (file 11) -/

/-- The DPM (file 11), with its check timer. -/
structure Dpm where
  presence : Presence
  lastSeen : Word32
  unchanged : Nat
  changed : Nat
  counting : Bool
  checkPending : Bool
  timer : Option Nat
  deriving DecidableEq, Repr

end Sys2Proof.Machine
end

