-- ==== Sys2Proof/Machine/Initial.lean ====
section
/-! DEFINITION. The initial value of every record, as the reset rules of the chapters give it. Where a
rule gives none the value is the model's, DESIGN CHOICE of log 4 (unsafe). -/

namespace Sys2Proof.Machine

/-- R25: every register of the window is 0. -/
def Window.initial : Window := { anchorLo := 0, anchorHi := 0, runBit := false, mask := 0 }

/-- R25, R181: IDLE, no start fault. The device time and the Board address in use are log 4's. -/
def Device.initial : Device :=
  { state := .idle, load := .outside, startFault := .clear, time := 0, board := 0, stopLost := false }

/-- The Content Directory address is 0 by R121; the other settings are log 4's (DESIGN CHOICE). -/
def HeaderSettings.initial : HeaderSettings :=
  { detachCount := 0, reattachCount := 0, scanInterval := 0, checkInterval := 0, entryTimeout := 0,
    holdTime := 0, lanternTime := 0, carLostTime := 0, answerTimeout := 0, expectationTimeout := 0,
    carStaleTime := 0, flushAge := 0, supplyBase := 0, carMask := 0, contentDirectory := 0,
    floorLabelTable := 0, carLabelTable := 0 }

/-- R25, R40, R42: no sequence, the search begins at the page engine, failure count 0, BOARD_LOST clear. -/
def Port.initial : Port :=
  { inFlight := none, lastGranted := .mirrorWriter, failures := 0, boardLost := false }

/-- R25, R33: an idle area. -/
def AreaCondition.idle : AreaCondition := { phase := .idle, rescan := false }

/-- R25, R30, R33, R35, R182: areas idle, SUPPLY counted as last scanned, all counts 0, seen counts
invalid, no live verdict. -/
def Scanner.initial : Scanner :=
  { areas := Vector.replicate 5 AreaCondition.idle, lastScanned := .supply, place := none,
    timer := none, liveRetry := false, taken := Vector.replicate 672 0,
    torn := Vector.replicate 672 0, seen := Vector.replicate 21 none, liveTaken := 0, liveTorn := 0,
    liveVerdict := .unset }

/-- R38: count 0 with verdict none. -/
def Receipt.initial : Receipt := { count := 0, verdict := .unset, reason := .unset }

/-- R25, R37, R39: a clear dirty set, the search at display receipt 0, write counts 0. -/
def Mirror.initial : Mirror :=
  { dirty := Vector.replicate 1401 false, next := 0, receipts := Vector.replicate 672 Receipt.initial,
    carWrites := Vector.replicate 64 0, routeWrites := Vector.replicate 8 0 }

/-- R1. -/
def DisplayRecord.initial : DisplayRecord :=
  { status := .unbound, binding := .unused, string := 0, address := 0, zone := 0, template := none,
    timer := 0, brightness := 0, enable := false, assist := false }

/-- Ten zero field bytes. -/
def zeroFields : List Byte := List.replicate 10 0

/-- R8: BLANK, zero fields, no banner, timer 0, brightness 1, not pending. -/
def Plan.initial : Plan :=
  { item := 4088, fields := zeroFields, banner := none, timer := 0, brightness := 1, pending := false }

/-- R8: stamp 0 and the initial plan; nothing waited on or asked for. -/
def Composition.initial : Composition :=
  { plan := Plan.initial, stamp := 0, wait := .nothing, asked := none }

/-- R43, R44: HUNT, no errors. -/
def Link.initial : Link := { receiver := .hunt, errors := 0 }

/-- R45; the last accepted time is log 4's. -/
def Car.initial : Car :=
  { state := .unheard, lower := 0xFF, upper := 0xFF, lowerShown := none, upperShown := none,
    motion := .stopped, direction := .still, door := .closed, mode := .normal, full := false,
    sequence := 0, gaps := 0, lastTime := 0 }

/-- R55: a new lantern record for a car and floor; its last increment time is log 4's. -/
def Lantern.initial (car floor : Nat) : Lantern :=
  { car := car, floor := floor, state := .dark, expected := 0, remaining := none, lastIncrement := 0,
    direction := .still }

/-- R43, R44, R45, R54, R55. -/
def Clu.initial : Clu :=
  { links := Vector.replicate 8 Link.initial, cars := Vector.replicate 64 Car.initial,
    lanterns := Vector.replicate 512 none,
    floorLabels := Vector.replicate 256 [0x20, 0x20, 0x20, 0x20],
    carLabels := Vector.replicate 64 [0x20, 0x20] }

/-- R65. -/
def Session.initial : Session :=
  { bound := false, display := 0, state := .idle, digits := [], access := false, destination := none,
    ticket := 0, route := none, redirected := false, car := 0, deck := .lower, refusal := .unset,
    fallback := .unset, evac := false, offline := false, timer := none, retiredTicket := 0,
    retiredRoute := none, retiredKind := .answered, withdrawal := .clear }

/-- R65, R86. -/
def Drq.initial : Drq :=
  { sessions := Vector.replicate 128 Session.initial, lastTicket := 0 }

/-- R89. -/
def RouteEntry.initial : RouteEntry := { mode := .off, target := 0, mask := 0, cursor := 0 }

/-- R95; the first-record time is log 4's. -/
def Route.initial : Route :=
  { enabled := false, staging := [], openPage := none, openWritten := false, records := 0,
    firstTime := 0, closing := none, successor := none, serial := 0, chain := 0, chainHead := none,
    dropped := 0, droppedTotal := 0, stopped := false }

/-- R89, R95, R97, R99: the search of the page engine begins at E0. -/
def Eru.initial : Eru :=
  { table := Vector.replicate 40 RouteEntry.initial, routes := Vector.replicate 8 Route.initial,
    drawn := 0, lastRead := 0, lastServed := 7, requestHold := 0 }

/-- R109. -/
def Zone.initial : Zone :=
  { hostPriority := .clear, hostItem := none, sources := [], priority := .clear, item := none }

/-- R111, R112; the pin is an input, released in `State.reset` (log 4). -/
def FireLine.initial : FireLine :=
  { pin := false, asserted := false, stable := 0, changeDue := false, mapMask := 0, mapItem := 4093,
    resolved := 4093, substituted := false }

/-- R109, R111, R112, R182. -/
def Ovr.initial : Ovr :=
  { zones := Vector.replicate 32 Zone.initial, lines := Vector.replicate 4 FireLine.initial,
    flags := Vector.replicate 4 false }

/-- R122. -/
def Slot.initial : Slot :=
  { state := .empty, item := none, pinned := false, refillWanted := false, refetch := false,
    length := 0, bytes := [] }

/-- R130. -/
def LockWindow.initial : LockWindow := { valid := false, base := 0, mask := 0 }

/-- R122, R124, R130, R133. -/
def Cst.initial : Cst :=
  { slots := Vector.replicate 64 Slot.initial, recency := Vector.replicate 4 [], queue := [],
    badIds := [], windows := Vector.replicate 4 LockWindow.initial, purgeSerial := 0, fills := 0,
    misses := 0 }

/-- The settings table of file 08. -/
def StringSettings.initial : StringSettings :=
  { runRequest := false, halt := false, rateCode := 0, threshold := 1, replyTimeout := 1,
    probeInterval := 1, sweepInterval := 10, settleTime := 10, wakeTime := 10 }

/-- R138; the rate in use and the wake time taken are log 4's. -/
def PanelString.initial : PanelString :=
  { state := .off, supply := false, driver := false, rate := 0, faults := 0, schedule := [],
    sweepNumber := 0, sweep := none, urgent := [], syncPending := false, overruns := 0,
    completed := 0, settle := none, wake := none, hold := none, sweepTimer := none,
    settings := StringSettings.initial, wakeTaken := 10, visited := 0, nextOwed := false,
    parkOwed := false, line := .free }

/-- R154. -/
def Panel.initial : Panel :=
  { health := .unseen, misses := 0, shown := none, keyAck := 0, light := none }

/-- R138, R154. -/
def Stc.initial : Stc :=
  { strings := Vector.replicate 16 PanelString.initial, panels := Vector.replicate 512 Panel.initial }

/-- R168. -/
def ChannelSettings.initial : ChannelSettings :=
  { reload := 0, compare := 0, source := .ms1, cascade := false, run := false, serial := 0 }

/-- R168. -/
def Channel.initial : Channel :=
  { settings := ChannelSettings.initial, running := false, pending := .unset, count := 0,
    phase := false, owed := 0 }

/-- R175. -/
def Dpm.initial : Dpm :=
  { presence := .waitingFirst, lastSeen := 0, unchanged := 0, changed := 0, counting := true,
    checkPending := false, timer := none }

end Sys2Proof.Machine
end

