-- ==== Sys2Proof/Machine/State.lean ====
section
/-! DEFINITION. The state of the hub, the two ways a step can stop, and the state after power-on reset. -/

namespace Sys2Proof.Machine

/-- The spec names nothing that stops the block, so no fault exists: nothing raises one (safe). -/
inductive Fault
  deriving DecidableEq, Repr

/-- Why a command has no meaning. -/
inductive Refusal where
  /-- Raised by an arm of `exec` whose command has no meaning yet, with the row's mnemonic (safe). -/
  | notModelled (mnemonic : String)
  deriving DecidableEq, Repr

/-- Everything the spec gives the hub, block by block, and the two fields of the model's own. -/
structure State where
  /-- ANCHOR_LO, ANCHOR_HI, RUN and CAUSE_MASK (R20, R21, R180). -/
  win : Window
  /-- CAUSE (R179). -/
  cause : BitVec 15
  /-- The device as a whole (R22). -/
  dev : Device
  /-- The header's settings (R27). -/
  hdr : HeaderSettings
  /-- The bus-master port (R40 to R42). -/
  port : Port
  /-- The scanner (R28 to R36). -/
  scan : Scanner
  /-- The mirror (R37 to R39). -/
  mir : Mirror
  /-- The Display Directory (R1). -/
  ddir : Vector DisplayRecord 512
  /-- The Composition Unit (R8). -/
  cmp : Vector Composition 512
  /-- The Car Link Unit (file 03). -/
  clu : Clu
  /-- The Destination Request Unit (file 04). -/
  drq : Drq
  /-- The Event Route Unit (file 05). -/
  eru : Eru
  /-- The Override Unit (file 06). -/
  ovr : Ovr
  /-- The Content Store (file 07). -/
  cst : Cst
  /-- The String Controllers (files 08 and 09). -/
  stc : Stc
  /-- The Cadence Timers (file 10). -/
  cdt : Vector Channel 16
  /-- The Dispatch Presence Monitor (file 11). -/
  dpm : Dpm
  /-- The model's own: how many free values have been used (log 15). -/
  freeUsed : Nat
  /-- The model's own: the commands that wait, first in, first out. -/
  pending : List Instr
  deriving DecidableEq, Repr

/-- The state with its field `win` replaced. -/
def State.withWin (s : State) (x : Window) : State := { s with win := x }

/-- The state with its field `cause` replaced. -/
def State.withCause (s : State) (x : BitVec 15) : State := { s with cause := x }

/-- The state with its field `dev` replaced. -/
def State.withDev (s : State) (x : Device) : State := { s with dev := x }

/-- The state with its field `hdr` replaced. -/
def State.withHdr (s : State) (x : HeaderSettings) : State := { s with hdr := x }

/-- The state with its field `port` replaced. -/
def State.withPort (s : State) (x : Port) : State := { s with port := x }

/-- The state with its field `scan` replaced. -/
def State.withScan (s : State) (x : Scanner) : State := { s with scan := x }

/-- The state with its field `mir` replaced. -/
def State.withMir (s : State) (x : Mirror) : State := { s with mir := x }

/-- The state with its field `ddir` replaced. -/
def State.withDdir (s : State) (x : Vector DisplayRecord 512) : State := { s with ddir := x }

/-- The state with its field `cmp` replaced. -/
def State.withCmp (s : State) (x : Vector Composition 512) : State := { s with cmp := x }

/-- The state with its field `clu` replaced. -/
def State.withClu (s : State) (x : Clu) : State := { s with clu := x }

/-- The state with its field `drq` replaced. -/
def State.withDrq (s : State) (x : Drq) : State := { s with drq := x }

/-- The state with its field `eru` replaced. -/
def State.withEru (s : State) (x : Eru) : State := { s with eru := x }

/-- The state with its field `ovr` replaced. -/
def State.withOvr (s : State) (x : Ovr) : State := { s with ovr := x }

/-- The state with its field `cst` replaced. -/
def State.withCst (s : State) (x : Cst) : State := { s with cst := x }

/-- The state with its field `stc` replaced. -/
def State.withStc (s : State) (x : Stc) : State := { s with stc := x }

/-- The state with its field `cdt` replaced. -/
def State.withCdt (s : State) (x : Vector Channel 16) : State := { s with cdt := x }

/-- The state with its field `dpm` replaced. -/
def State.withDpm (s : State) (x : Dpm) : State := { s with dpm := x }

/-- The state with its field `freeUsed` replaced. -/
def State.withFreeUsed (s : State) (x : Nat) : State := { s with freeUsed := x }

/-- The state with its field `pending` replaced. -/
def State.withPending (s : State) (x : List Instr) : State := { s with pending := x }

/-- The hub right after power-on reset (R25). -/
def State.reset : State :=
  { win := Window.initial,
    cause := 0,
    dev := Device.initial,
    hdr := HeaderSettings.initial,
    port := Port.initial,
    scan := Scanner.initial,
    mir := Mirror.initial,
    ddir := Vector.replicate 512 DisplayRecord.initial,
    cmp := Vector.replicate 512 Composition.initial,
    clu := Clu.initial,
    drq := Drq.initial,
    eru := Eru.initial,
    ovr := Ovr.initial,
    cst := Cst.initial,
    stc := Stc.initial,
    cdt := Vector.replicate 16 Channel.initial,
    dpm := Dpm.initial,
    freeUsed := 0,
    pending := [] }

end Sys2Proof.Machine
end

