-- ==== Sys2Proof/Machine/Tables.lean ====
section
/-! DEFINITION. Tables of a fixed size read and written at a number, and the byte order and bit field
helpers of the formats (little-endian, file 00). -/

namespace Sys2Proof.Machine

/-- Entry `i` of a table, or `d` beyond its end. -/
def tget {α : Type} {n : Nat} (v : Vector α n) (i : Nat) (d : α) : α := v.toArray.toList.getD i d

/-- The table with entry `i` replaced; a number beyond its end changes nothing. -/
def tset {α : Type} {n : Nat} (v : Vector α n) (i : Nat) (x : α) : Vector α n :=
  ⟨⟨v.toArray.toList.set i x⟩, by simp⟩

/-- The table with every entry mapped. -/
def tmap {α β : Type} {n : Nat} (f : α → β) (v : Vector α n) : Vector β n :=
  ⟨⟨v.toArray.toList.map f⟩, by simp⟩

/-- The table whose entry `i` is `f i`. -/
def tbuild {α : Type} (n : Nat) (f : Nat → α) : Vector α n :=
  ⟨⟨(List.range n).map f⟩, by simp⟩

/-- The entries in order. -/
def tlist {α : Type} {n : Nat} (v : Vector α n) : List α := v.toArray.toList

/-- The numbers below the table's size whose entries satisfy `p`, ascending. -/
def twhere {α : Type} {n : Nat} (v : Vector α n) (p : α → Bool) : List Nat :=
  ((tlist v).zipIdx.filter fun e => p e.1).map Prod.snd

/-- `step` done for each member of a list in turn. -/
def each {α σ : Type} (l : List α) (step : α → σ → σ) (s : σ) : σ := l.foldl (fun t a => step a t) s

/-- Byte `i` of a block of bytes; 0 beyond its end. -/
def byteAt (b : List Byte) (i : Nat) : Byte := b.getD i 0

/-- Byte `i` as a number. -/
def numAt (b : List Byte) (i : Nat) : Nat := (byteAt b i).toNat

/-- The little-endian 16-bit number at byte `i`. -/
def num16At (b : List Byte) (i : Nat) : Nat := numAt b i + 256 * numAt b (i + 1)

/-- The little-endian 32-bit number at byte `i`. -/
def num32At (b : List Byte) (i : Nat) : Nat := num16At b i + 65536 * num16At b (i + 2)

/-- The little-endian 32-bit word at byte `i`. -/
def word32At (b : List Byte) (i : Nat) : Word32 := BitVec.ofNat 32 (num32At b i)

/-- The little-endian 64-bit word at byte `i`. -/
def word64At (b : List Byte) (i : Nat) : BitVec 64 :=
  BitVec.ofNat 64 (num32At b i + 4294967296 * num32At b (i + 4))

/-- `n` as `k` bytes, little-endian. -/
def leBytes : Nat → Nat → List Byte
  | 0, _ => []
  | k + 1, n => BitVec.ofNat 8 n :: leBytes k (n / 256)

/-- Bits `lo` and up of `n`, `width` of them. -/
def bitsOf (n lo width : Nat) : Nat := n / 2 ^ lo % 2 ^ width

/-- Bit `i` of `n`. -/
def bitOf (n i : Nat) : Bool := n.testBit i

/-- A flag as a byte. -/
def flagByte (b : Bool) : Byte := if b then 1 else 0

/-- A flag as a number. -/
def flagNum (b : Bool) : Nat := if b then 1 else 0

/-- A list of bytes cut or filled with 0 to `n` bytes. -/
def padTo (n : Nat) (b : List Byte) : List Byte := b.take n ++ List.replicate (n - b.length) 0

/-- One bit of the CRC-8: the polynomial x^8 + x^2 + x + 1, most significant bit first (R44). -/
def crcShift (c : Byte) : Byte := if c.msb then (c <<< 1) ^^^ 0x07 else c <<< 1

/-- One byte taken into the CRC-8 (R44). -/
def crcByte (c b : Byte) : Byte :=
  crcShift (crcShift (crcShift (crcShift (crcShift (crcShift (crcShift (crcShift (c ^^^ b))))))))

/-- The CRC-8 of R44: it starts from 0 and has no final inversion. -/
def crc8 (bytes : List Byte) : Byte := bytes.foldl crcByte 0

/-- A running timer one tick on (file 00, Times). -/
def tickTimer : Option Nat → Option Nat := Option.map (· - 1)

/-- A timer whose time has passed and whose expiry has not been taken. -/
def timerDue (t : Option Nat) : Bool := t == some 0

end Sys2Proof.Machine
end

