-- ==== Sys2Proof/Machine/Ops.lean ====
section
/-! DEFINITION. The named operations over the hub's records: reading and replacing one entry of a table,
the dirty set, CAUSE and the interrupt line, requests for recomposition, and the questions that several
blocks ask. -/

namespace Sys2Proof.Machine

/-! ## Entries of the tables -/

/-- `f` where the condition holds. -/
def onlyIf (b : Bool) (f : State → State) (s : State) : State := if b then f s else s

/-- Display record `d`. -/
def State.display (s : State) (d : Nat) : DisplayRecord := tget s.ddir d DisplayRecord.initial
def State.setDisplay (s : State) (d : Nat) (r : DisplayRecord) : State := s.withDdir (tset s.ddir d r)

/-- What CMP keeps for display `d`. -/
def State.comp (s : State) (d : Nat) : Composition := tget s.cmp d Composition.initial
def State.setComp (s : State) (d : Nat) (c : Composition) : State := s.withCmp (tset s.cmp d c)

/-- Link `l`. -/
def State.link (s : State) (l : Nat) : Link := tget s.clu.links l Link.initial
def State.setLink (s : State) (l : Nat) (x : Link) : State :=
  s.withClu { s.clu with links := tset s.clu.links l x }

/-- Car record `c`. -/
def State.car (s : State) (c : Nat) : Car := tget s.clu.cars c Car.initial
def State.setCar (s : State) (c : Nat) (x : Car) : State :=
  s.withClu { s.clu with cars := tset s.clu.cars c x }

/-- The lantern record of display `d`, if there is one. -/
def State.lantern (s : State) (d : Nat) : Option Lantern := tget s.clu.lanterns d none
def State.setLantern (s : State) (d : Nat) (x : Option Lantern) : State :=
  s.withClu { s.clu with lanterns := tset s.clu.lanterns d x }

/-- Keypad session `n`. -/
def State.session (s : State) (n : Nat) : Session := tget s.drq.sessions n Session.initial
def State.setSession (s : State) (n : Nat) (x : Session) : State :=
  s.withDrq { s.drq with sessions := tset s.drq.sessions n x }

/-- Routing table entry `k`. -/
def State.entry (s : State) (k : Nat) : RouteEntry := tget s.eru.table k RouteEntry.initial
def State.setEntry (s : State) (k : Nat) (x : RouteEntry) : State :=
  s.withEru { s.eru with table := tset s.eru.table k x }

/-- Route record `r`. -/
def State.route (s : State) (r : Nat) : Route := tget s.eru.routes r Route.initial
def State.setRoute (s : State) (r : Nat) (x : Route) : State :=
  s.withEru { s.eru with routes := tset s.eru.routes r x }

/-- Zone record `z`. -/
def State.zone (s : State) (z : Nat) : Zone := tget s.ovr.zones z Zone.initial
def State.setZone (s : State) (z : Nat) (x : Zone) : State :=
  s.withOvr { s.ovr with zones := tset s.ovr.zones z x }

/-- Fire line `k`. -/
def State.line (s : State) (k : Nat) : FireLine := tget s.ovr.lines k FireLine.initial
def State.setLine (s : State) (k : Nat) (x : FireLine) : State :=
  s.withOvr { s.ovr with lines := tset s.ovr.lines k x }

/-- Content Store slot `i`. -/
def State.slot (s : State) (i : Nat) : Slot := tget s.cst.slots i Slot.initial
def State.setSlot (s : State) (i : Nat) (x : Slot) : State :=
  s.withCst { s.cst with slots := tset s.cst.slots i x }

/-- String record `k`. -/
def State.string (s : State) (k : Nat) : PanelString := tget s.stc.strings k PanelString.initial
def State.setString (s : State) (k : Nat) (x : PanelString) : State :=
  s.withStc { s.stc with strings := tset s.stc.strings k x }

/-- Panel record `p`, at string × 32 + address. -/
def State.panel (s : State) (p : Nat) : Panel := tget s.stc.panels p Panel.initial
def State.setPanel (s : State) (p : Nat) (x : Panel) : State :=
  s.withStc { s.stc with panels := tset s.stc.panels p x }

/-- Cadence channel `k`. -/
def State.channel (s : State) (k : Nat) : Channel := tget s.cdt k Channel.initial
def State.setChannel (s : State) (k : Nat) (x : Channel) : State := s.withCdt (tset s.cdt k x)

/-- The receipt of a cell, numbered over the three areas. -/
def State.receipt (s : State) (c : Nat) : Receipt := tget s.mir.receipts c Receipt.initial

/-- The record index of a panel (R167). -/
def panelIndex (string address : Nat) : Nat := string * 32 + address

/-! ## Codes -/

def DeviceState.code : DeviceState → Nat
  | .idle => 0 | .loading => 1 | .running => 2 | .stopping => 3

def Presence.code : Presence → Nat
  | .waitingFirst => 0 | .attached => 1 | .detachedHeartbeat => 2 | .detachedBoard => 3

def StartFault.code : StartFault → Nat
  | .clear => 0 | .tag => 1 | .range => 2 | .bus => 3 | .labels => 4 | .routing => 5

def Deck.code : Deck → Nat
  | .lower => 0 | .upper => 1

def Motion.code : Motion → Nat
  | .stopped => 0 | .moving => 1 | .levelling => 2

def Direction.code : Direction → Nat
  | .still => 0 | .up => 1 | .down => 2

def Door.code : Door → Nat
  | .closed => 0 | .opening => 1 | .opened => 2 | .closing => 3

def CarMode.code : CarMode → Nat
  | .normal => 0 | .independent => 1 | .fireService => 2 | .outOfService => 3

def CarState.code : CarState → Nat
  | .unheard => 0 | .fresh => 1 | .stale => 2 | .lost => 3

def SessionState.code : SessionState → Nat
  | .idle => 0 | .entering => 1 | .waiting => 2 | .showing => 3 | .refused => 4 | .fallback => 5
  | .invalid => 6 | .blocked => 7

def FallbackReason.code : FallbackReason → Nat
  | .unset => 0 | .noAnswer => 1 | .busy => 2 | .detached => 3

def Refusing.code : Refusing → Nat
  | .unset => 0 | .notServed => 1 | .restricted => 2

def Withdrawal.code : Withdrawal → Nat
  | .clear => 1 | .unbound => 2 | .evac => 3 | .offline => 4 | .noAnswer => 5 | .detached => 6

def StringState.code : StringState → Nat
  | .off => 0 | .powering => 1 | .waking => 2 | .enumerating => 3 | .running => 4 | .draining => 5
  | .parking => 6 | .fault => 7 | .faultLocked => 8

def Health.code : Health → Nat
  | .unseen => 0 | .present => 1 | .degraded => 2 | .offline => 3

def Verdict.code : Verdict → Nat
  | .unset => 0 | .accepted => 1 | .rejected => 2 | .used => 3 | .late => 4

def Reason.code : Reason → Nat
  | .unset => 0 | .range => 1 | .car => 2 | .dupPanel => 3 | .dupSlot => 4 | .type => 5

def LiveVerdict.code : LiveVerdict → Nat
  | .unset => 0 | .accepted => 1 | .range => 2 | .routing => 3

def CloseReason.code : CloseReason → Nat
  | .full => 1 | .age => 2 | .flush => 3 | .stop => 4

/-- The kind code of a display cell (Board formats). -/
def Binding.kind : Binding → Nat
  | .unused => 0 | .carPosition .. => 1 | .hallLantern .. => 2 | .lobbyOverview .. => 3
  | .keypad .. => 4 | .free => 5

/-- The panel type that matches a kind, in the codes of a reply (the second table of file 01 and the
reply format of file 09): both count POSITION, LANTERN, OVERVIEW, KEYPAD, GENERAL from 1. -/
def Binding.panelType (b : Binding) : Nat := b.kind

/-! ## The dirty set and CAUSE -/

/-- The place of a mirror record in the dirty set, ascending in Board offset (R37). -/
def MirrorRecord.index : MirrorRecord → Nat
  | .receipt c => c
  | .keypad n => 672 + n
  | .car c => 800 + c
  | .panel p => 864 + p
  | .string k => 1376 + k
  | .route r => 1392 + r
  | .device => 1400

/-- The mirror record at a place of the dirty set. -/
def MirrorRecord.ofIndex (i : Nat) : MirrorRecord :=
  if i < 672 then .receipt i
  else if i < 800 then .keypad (i - 672)
  else if i < 864 then .car (i - 800)
  else if i < 1376 then .panel (i - 864)
  else if i < 1392 then .string (i - 1376)
  else if i < 1400 then .route (i - 1392)
  else .device

/-- Places of the dirty set that name a record: panel records of address 0 do not (R37, R167). -/
def mirrored (i : Nat) : Bool := !(decide (864 ≤ i) && decide (i < 1376) && (i - 864) % 32 == 0)

/-- Marks a mirror record dirty (R37). -/
def markDirty (r : MirrorRecord) (s : State) : State :=
  if mirrored r.index then s.withMir { s.mir with dirty := tset s.mir.dirty r.index true } else s

/-- Marks every mirror record dirty at step 1 of LOADING (R38), the car mirror records of R45 among them. -/
def markAllDirty (s : State) : State := s.withMir { s.mir with dirty := tbuild 1401 mirrored }

/-- Marks every car mirror record dirty (R45). -/
def markCars (s : State) : State :=
  s.withMir { s.mir with
    dirty := tbuild 1401 fun i =>
      match MirrorRecord.ofIndex i with
      | .car _ => true
      | .receipt _ | .keypad _ | .panel _ | .string _ | .route _ | .device => tget s.mir.dirty i false }

/-- The dirty set emptied (R25, R38). -/
def emptyDirty (s : State) : State := s.withMir { s.mir with dirty := Vector.replicate 1401 false }

/-- The cause bits (R179). -/
inductive CauseBit where
  | route (r : Nat)
  | drop | presence | board | string | content | startFault | stopped

def CauseBit.index : CauseBit → Nat
  | .route r => r
  | .drop => 8 | .presence => 9 | .board => 10 | .string => 11 | .content => 12 | .startFault => 13
  | .stopped => 14

/-- Sets a cause bit; one already set stays set (R179). -/
def setCause (b : CauseBit) (s : State) : State :=
  s.withCause (s.cause ||| BitVec.ofNat 15 (2 ^ b.index))

/-- The interrupt line: asserted while some bit is set in CAUSE and in CAUSE_MASK (R180). -/
def State.irq (s : State) : Bool := s.cause &&& s.win.mask != 0

/-! ## Questions several blocks ask -/

def State.attached (s : State) : Bool := s.dpm.presence == .attached

/-- Presence is DETACHED, with either reason (R110). -/
def State.detached (s : State) : Bool :=
  s.dpm.presence == .detachedHeartbeat || s.dpm.presence == .detachedBoard

def State.isRunning (s : State) : Bool := s.dev.state == .running

/-- Step 5 of LOADING has taken its settings: LOADING from there on, RUNNING and STOPPING (R87, R168). -/
def LoadStep.afterLive : LoadStep → Bool
  | .floorLabels | .carLabels | .supplyCount | .preFill | .firstScan => true
  | .outside | .header | .live => false

/-- LOADING from step 5, or RUNNING: when zones are formed (R109, R111, R115). -/
def State.formsZones (s : State) : Bool :=
  s.dev.state == .running || (s.dev.state == .loading && s.dev.load.afterLive)

/-- When the ERU routes offers: LOADING from step 5, RUNNING and STOPPING (R87). -/
def State.routesOffers (s : State) : Bool := s.formsZones || s.dev.state == .stopping

/-- The car is set in the configured-car mask (R3, R44). -/
def State.configured (s : State) (car : Nat) : Bool := s.hdr.carMask.getLsbD car

/-- A record in BOUND standing (R1). -/
def State.isBound (s : State) (d : Nat) : Bool := (s.display d).status == .bound

/-- The BOUND display that holds a panel (R1). -/
def State.holder (s : State) (string address : Nat) : Option Nat :=
  (twhere s.ddir fun r => r.status == .bound && r.string == string && r.address == address).head?

/-- Time passed since a stored device time, modulo 2^32 (R22). -/
def State.since (s : State) (t : Word32) : Nat := (s.dev.time - t).toNat

/-- The effective run of a string (R138). -/
def State.effectiveRun (s : State) (k : Nat) : Bool :=
  (s.string k).settings.runRequest && s.isRunning

/-! ## Requests for recomposition -/

/-- A request for recomposition of a display (R9): dropped unless the display is BOUND, and one for a display
that awaits recomposition already adds nothing, its cause included (log 12). -/
def askRecompose (why : Ask) (d : Nat) (s : State) : State :=
  if s.isBound d && (s.comp d).asked.isNone then s.setComp d { s.comp d with asked := some why } else s

/-- A display that has left BOUND waits on nothing and asks for nothing; its plan and stamp stand (R8,
R9). -/
def dropComposition (d : Nat) (s : State) : State :=
  s.setComp d { s.comp d with wait := .nothing, asked := none }

/-- A request that R10 does not make urgent. -/
def Ask.plain : Ask := { urgent := false, fill := false }

/-- A request of DRQ for a session change, or of CLU for a lantern record change (R10). -/
def Ask.session : Ask := { urgent := true, fill := false }

/-- A request of CST at a fill's completion (R10, R15). -/
def Ask.completion : Ask := { urgent := false, fill := true }

/-- Recomposition asked of every BOUND display whose record satisfies `p`. -/
def askWhere (why : Ask) (p : DisplayRecord → Bool) (s : State) : State :=
  each (twhere s.ddir fun r => r.status == .bound && p r) (askRecompose why) s

/-- Recomposition asked of every display whose composition satisfies `p`. -/
def askWaiting (why : Ask) (p : Composition → Bool) (s : State) : State :=
  each (twhere s.cmp p) (askRecompose why) s

/-- A free value below `bound`, fresh each time (log 15). -/
def State.free (s : State) (bound : Nat) : Nat := Config.freeValue s.freeUsed % bound

end Sys2Proof.Machine
end

