-- ==== Sys2Proof/Machine/Routes.lean ====
section
/-! DEFINITION. Offering an event to the Event Route Unit (R87 to R93), and the page addresses and counts
of the supply list (R97). -/

namespace Sys2Proof.Machine

/-- The codes of R88. -/
def EventKind.code : EventKind → Nat
  | .destRequest => 0x01 | .destCancel => 0x02 | .answerLate => 0x03
  | .carArrival => 0x10 | .carLost => 0x11 | .carBack => 0x12 | .carMode => 0x13
  | .panelOffline => 0x20 | .panelBack => 0x21 | .panelType => 0x22
  | .stringState => 0x30 | .stringFault => 0x31
  | .contentFault => 0x40 | .pinRefused => 0x41
  | .presence => 0x50 | .fireLine => 0x60 | .cellStuck => 0x70

/-- The class entry of the kinds routed by class (R88); 0 for those routed by zone or by affinity. -/
def EventKind.cls : EventKind → Nat
  | .destRequest | .destCancel | .answerLate => 0
  | .carArrival => 32
  | .carLost | .carBack | .carMode => 33
  | .panelOffline | .panelBack | .panelType => 34
  | .stringState | .stringFault => 35
  | .contentFault | .pinRefused => 36
  | .presence => 37 | .fireLine => 38 | .cellStuck => 39

/-- The 16 bytes of an event record (formats of file 05); payload bytes not named are 0. -/
def Event.bytes (e : Event) : List Byte :=
  [BitVec.ofNat 8 e.kind.code, BitVec.ofNat 8 e.cls] ++ leBytes 2 e.source ++ leBytes 2 e.ticket
    ++ padTo 6 e.payload ++ leBytes 4 e.time.toNat

/-- A count that runs 0 to 65,535 and saturates (R93). -/
def satAdd16 (n : Nat) : Nat := min 65535 (n + 1)

/-- A refusal or discard counted against a route (R93). -/
def countRefusal (r : Nat) (s : State) : State :=
  let x := s.route r
  setCause .drop <| markDirty (.route r) <|
    s.setRoute r { x with dropped := satAdd16 x.dropped, droppedTotal := satAdd16 x.droppedTotal }

/-- A route qualifies for an event when it is enabled, its queue holds fewer than 16 events (R90, R91,
R92) and it has not reached its stop point (R106). -/
def State.routeTakes (s : State) (r : Nat) : Bool :=
  (s.route r).enabled && decide ((s.route r).staging.length < 16) && !(s.route r).stopped

/-- The event joins the route's staging queue at the tail (R96). -/
def acceptEvent (r : Nat) (e : Event) (s : State) : State :=
  let x := s.route r
  s.setRoute r { x with staging := x.staging ++ [e] }

/-- The first qualifying route of a ROTATE entry: from the one after the cursor, cyclically, the cursor's
own last (R91). -/
def State.rotateChoice (s : State) (entry : RouteEntry) : Option Nat :=
  ((List.range 8).map fun k => (entry.cursor + 1 + k) % 8).find? fun r =>
    entry.mask.getLsbD r && s.routeTakes r

/-- An offer through routing table entry `k` (R87, R90, R91): the state after it and the route that
accepted the event, if one did. -/
def offerVia (k : Nat) (e : Event) (s : State) : State × Option Nat :=
  if !s.routesOffers then (s, none)
  else
    let entry := s.entry k
    match entry.mode with
    | .off => (s, none)
    | .single =>
      if s.routeTakes entry.target then (acceptEvent entry.target e s, some entry.target)
      else (countRefusal entry.target s, none)
    | .rotate =>
      match s.rotateChoice entry with
      | some r => (acceptEvent r e (s.setEntry k { entry with cursor := r }), some r)
      | none => (countRefusal entry.cursor s, none)

/-- An offer by affinity to a recorded route (R92). -/
def offerTo (r : Option Nat) (e : Event) (s : State) : State :=
  if !s.routesOffers then s
  else match r with
    | none => s
    | some r => if s.routeTakes r then acceptEvent r e s else countRefusal r s

/-- An event of a kind routed by class, made now: its class entry is its kind's (R88). -/
def offerClass (kind : EventKind) (source : Nat) (payload : List Byte) (s : State) : State :=
  (offerVia kind.cls
    { kind := kind, cls := kind.cls, source := source, ticket := 0, payload := payload,
      time := s.dev.time } s).1

/-- The number of pages available (R97). -/
def State.available (s : State) : Nat :=
  let d := (s.eru.lastRead - s.eru.drawn).toNat
  if 1 ≤ d ∧ d ≤ 64 then d else 0

/-- The byte address of a page (R97: bits 47:8). -/
def pageAddress (p : BitVec 40) : BitVec 64 := (p.setWidth 64) <<< 8

end Sys2Proof.Machine
end

