-- ==== Sys2Proof/Machine/Content.lean ====
section
/-! DEFINITION. The Content Store (file 07): slots, recency, lookups, the fill queue, the bad-id list,
lock windows and purges. -/

namespace Sys2Proof.Machine

/-! ## Slots and sets (R121 to R123) -/

/-- The set an item belongs to (R121). -/
def setOf (item : Nat) : Nat := item % 4

/-- Way `w` of set `k` as a slot number. -/
def slotIndex (k w : Nat) : Nat := k * 16 + w

/-- A fetched item, not a built-in one (R121). -/
def fetched (item : Nat) : Bool := decide (item < 4088)

/-- The slot that holds or is filling an item. -/
def State.slotOf (s : State) (item : Nat) : Option Nat :=
  (twhere s.cst.slots fun x => x.state != .empty && x.item == some item).head?

/-- A slot holds the item VALID. -/
def State.holdsValid (s : State) (item : Nat) : Bool :=
  (tlist s.cst.slots).any fun x => x.state == .valid && x.item == some item

/-- The recency list of a set. -/
def State.recent (s : State) (k : Nat) : List Nat := tget s.cst.recency k []

/-- A slot's way leaves its set's recency list. -/
def unlistSlot (i : Nat) (s : State) : State :=
  s.withCst { s.cst with
    recency := tset s.cst.recency (i / 16) ((s.recent (i / 16)).filter (· != i % 16)) }

/-- A slot comes to the front of its set's recency list. -/
def toFront (i : Nat) (s : State) : State :=
  s.withCst { s.cst with
    recency := tset s.cst.recency (i / 16) (i % 16 :: (s.recent (i / 16)).filter (· != i % 16)) }

/-- The fill queue replaced. -/
def State.setQueue (s : State) (q : List FillEntry) : State := s.withCst { s.cst with queue := q }

/-- A slot has refill wanted or a refill entry (R125, R134). -/
def State.refillDue (s : State) (i : Nat) : Bool :=
  (s.slot i).refillWanted || s.cst.queue.any fun e => e.refill && e.slot == i

/-- The pinned slots of a set. -/
def State.pinnedCount (s : State) (k : Nat) : Nat :=
  ((List.range 16).filter fun w => (s.slot (slotIndex k w)).pinned).length

/-! ## Lock windows (R130 to R132) -/

/-- A base and a mask match an id (R130, R133). -/
def idMatches (base mask : BitVec 16) (item : Nat) : Bool :=
  BitVec.ofNat 16 item &&& mask == base &&& mask

/-- A window covers an id (R130). -/
def LockWindow.covers (w : LockWindow) (item : Nat) : Bool := w.valid && idMatches w.base w.mask item

/-- The lowest window that covers an id. -/
def coveringWindow (ws : Vector LockWindow 4) (item : Nat) : Option Nat :=
  (twhere ws fun w => w.covers item).head?

/-- The pin of a VALID slot decided: pinned under the limit, refused at it (R131, R132). -/
def decidePin (i item : Nat) (s : State) : State :=
  match coveringWindow s.cst.windows item with
  | none => s
  | some w =>
    let pins := s.pinnedCount (i / 16)
    if pins < 15 then s.setSlot i { s.slot i with pinned := true }
    else
      offerClass .pinRefused item
        [BitVec.ofNat 8 (i / 16), BitVec.ofNat 8 w, BitVec.ofNat 8 pins] s

/-- The first pass of a re-evaluation clears the pins that no window covers any more (R132). -/
def unpinUncovered (s : State) : State :=
  s.withCst { s.cst with
    slots := tmap (fun x =>
      match x.item with
      | some item =>
        if x.pinned && (coveringWindow s.cst.windows item).isNone then { x with pinned := false } else x
      | none => x) s.cst.slots }

/-- The second pass pins what the windows cover, in ascending set and way order (R132). -/
def pinCovered (s : State) : State :=
  each (List.range 64)
    (fun i t =>
      match (t.slot i).item with
      | some item => if (t.slot i).state == .valid && !(t.slot i).pinned then decidePin i item t else t
      | none => t) s

/-- New lock windows in RUNNING: nothing where none differs (R130, R132). -/
def changeWindows (ws : Vector LockWindow 4) (s : State) : State :=
  if ws == s.cst.windows then s
  else pinCovered (unpinUncovered (s.withCst { s.cst with windows := ws }))

/-! ## Lookups (R124, R125) -/

/-- The answers to a lookup (R124). -/
inductive LookupAnswer where
  | hit | missTaken | missRefused | faultAtOnce
  deriving DecidableEq, Repr

/-- The victim of a miss in a set (R125). -/
def State.victim (s : State) (k : Nat) : Option Nat :=
  match (List.range 16).find? fun w => (s.slot (slotIndex k w)).state == .empty with
  | some w => some (slotIndex k w)
  | none =>
    ((s.recent k).reverse.find? fun w =>
      let i := slotIndex k w
      (s.slot i).state == .valid && !(s.slot i).pinned && !s.refillDue i).map (slotIndex k)

/-- A victim becomes FILLING with an item, and its FILL entry joins the queue (R125, R126). -/
def beginFill (item : Nat) (preFill : Bool) (i : Nat) (s : State) : State :=
  let t := (unlistSlot i s).setSlot i { Slot.initial with state := .filling, item := some item }
  t.setQueue (t.cst.queue ++
    [{ slot := i, item := item, refill := false, preFill := preFill, started := false }])

/-- Every answer other than a hit raises the miss count (R124). -/
def countMiss (s : State) : State :=
  markDirty .device (s.withCst { s.cst with misses := s.cst.misses + 1 })

/-- An id is in quarantine. -/
def State.quarantined (s : State) (item : Nat) : Bool := s.cst.badIds.any fun b => b.item == item

/-- The device state lets the fill queue take new entries (R124, R135, R137). -/
def State.queuesFills (s : State) : Bool := s.dev.state == .loading || s.dev.state == .running

/-- A miss of an item that no slot holds or fills (R124). -/
def missItem (item : Nat) (preFill : Bool) (s : State) : State × LookupAnswer :=
  if s.quarantined item then (s, .faultAtOnce)
  else if !s.queuesFills || decide (8 ≤ s.cst.queue.length) then (s, .missRefused)
  else match s.victim (setOf item) with
    | none => (s, .missRefused)
    | some i => (beginFill item preFill i s, .missTaken)

/-- A lookup of an item 0 to 4087 (R124); `preFill` marks the entry of a pre-fill (R136). -/
def lookupItem (item : Nat) (preFill : Bool) (s : State) : State × LookupAnswer :=
  match s.slotOf item with
  | some i =>
    if (s.slot i).state == .valid then (toFront i s, .hit) else (countMiss s, .missTaken)
  | none =>
    let r := missItem item preFill s
    (countMiss r.1, r.2)

/-! ## Reports to the Composition Unit (R15, R16, R17) -/

/-- Every BOUND display whose plan names an item is recomposed (R17). -/
def recomposeNaming (why : Ask) (item : Nat) (s : State) : State :=
  askWaiting why (fun c => c.plan.item == item) s

/-- The completion of an item's fill: its waiters and those that wait on the end of any fill (R15). -/
def reportCompletion (item : Nat) (s : State) : State :=
  askWaiting .completion (fun c => c.wait == .fill item || c.wait == .anyFill) s

/-- A fault on an item's fill: its waiters wait on its release; those that wait on the end of any fill are
recomposed (R16). -/
def reportFault (item : Nat) (s : State) : State :=
  askWaiting .plain (fun c => c.wait == .anyFill)
    (s.withCmp (tmap (fun c => if c.wait == .fill item then { c with wait := .release item } else c)
      s.cmp))

/-- The release of an id (R16, R129). -/
def reportRelease (item : Nat) (s : State) : State :=
  askWaiting .plain (fun c => c.wait == .release item) s

/-! ## The fill queue (R126 to R129, R135, R137) -/

/-- The entry of a queue that has been started (R126). -/
def startedEntry (q : List FillEntry) : Option FillEntry := q.find? fun e => e.started

/-- An entry removed from the queue. -/
def dropEntry (e : FillEntry) (s : State) : State := s.setQueue (s.cst.queue.filter (· != e))

/-- The entry at the head is started (R126). -/
def startHead (s : State) : State :=
  match s.cst.queue with
  | [] => s
  | e :: rest => s.setQueue ({ e with started := true } :: rest)

/-- A REFILL entry at the back of the queue for a VALID slot (R134, R135). -/
def queueRefill (i item : Nat) (s : State) : State :=
  s.setQueue (s.cst.queue ++
    [{ slot := i, item := item, refill := true, preFill := false, started := false }])

/-- Slots with refill wanted are queued in ascending order while there is room (R135, R137). -/
def queueWanted (s : State) : State :=
  if s.queuesFills then
    each (twhere s.cst.slots fun x => x.refillWanted)
      (fun i t =>
        match (t.slot i).item with
        | some item =>
          if t.cst.queue.length < 8 then
            queueRefill i item (t.setSlot i { t.slot i with refillWanted := false })
          else t
        | none => t) s
  else s

/-- A discarded outcome: the entry goes to the back of the queue, not started (R127). -/
def refetchEntry (e : FillEntry) (s : State) : State :=
  let t := s.setSlot e.slot { s.slot e.slot with refetch := false }
  t.setQueue (t.cst.queue.filter (· != e) ++ [{ e with started := false }])

/-- The slot after a completion (R127). -/
def fillSlot (e : FillEntry) (bytes : List Byte) (s : State) : State :=
  if e.refill then
    toFront e.slot (s.setSlot e.slot { s.slot e.slot with bytes := bytes, length := bytes.length })
  else
    decidePin e.slot e.item <| toFront e.slot <|
      s.setSlot e.slot
        { Slot.initial with state := .valid, item := some e.item, bytes := bytes,
                            length := bytes.length }

/-- A fill completes (R127). -/
def completeFill (e : FillEntry) (bytes : List Byte) (s : State) : State :=
  let t := dropEntry e (fillSlot e bytes s)
  let u := queueWanted (markDirty .device (t.withCst { t.cst with fills := t.cst.fills + 1 }))
  onlyIf e.refill (recomposeNaming .completion e.item) (reportCompletion e.item u)

/-- An id enters the bad-id list at the back; of a full list the oldest is released (R129). -/
def quarantine (item : Nat) (s : State) : State :=
  let put (t : State) (l : List BadId) : State :=
    t.withCst { t.cst with badIds := l ++ [{ item := item, remaining := 1000 }] }
  match s.cst.badIds with
  | old :: rest =>
    if 8 ≤ s.cst.badIds.length then reportRelease old.item (put s rest) else put s s.cst.badIds
  | [] => put s []

/-- CONTENT_FAULT and the CONTENT cause bit; `length` is `none` for a bus error (R128). -/
def offerContentFault (item : Nat) (length : Option Nat) (s : State) : State :=
  setCause .content <|
    offerClass .contentFault item
      ([BitVec.ofNat 8 (if length.isSome then 2 else 1)] ++ leBytes 2 (length.getD 0)
        ++ [BitVec.ofNat 8 (setOf item)]) s

/-- A fill faults (R128). -/
def faultFill (e : FillEntry) (length : Option Nat) (s : State) : State :=
  if e.refill then
    askWaiting .plain (fun c => c.wait == .anyFill) <|
      queueWanted (offerContentFault e.item length (dropEntry e s))
  else
    reportFault e.item <| queueWanted <| offerContentFault e.item length <|
      quarantine e.item <| dropEntry e <| s.setSlot e.slot Slot.initial

/-- Entry to IDLE drops the queue (R137). -/
def dropQueue (s : State) : State :=
  let t := each s.cst.queue
    (fun e t =>
      t.setSlot e.slot
        (if e.refill then { t.slot e.slot with refetch := false } else Slot.initial)) s
  t.setQueue []

/-! ## Purges (R133, R134) -/

/-- What a purge does to one slot whose item matches (R134). -/
def purgeSlot (i item : Nat) (s : State) : State :=
  let x := s.slot i
  match s.cst.queue.find? (fun e => e.slot == i) with
  | some e => if e.started then s.setSlot i { x with refetch := true } else s
  | none =>
    if x.refillWanted then s
    else if x.pinned then
      if s.cst.queue.length < 8 then queueRefill i item s
      else s.setSlot i { x with refillWanted := true }
    else recomposeNaming .plain item ((unlistSlot i s).setSlot i Slot.initial)

/-- A purge: the slots in ascending order, then the bad-id list (R134). -/
def purge (base mask : BitVec 16) (s : State) : State :=
  let t := each (List.range 64)
    (fun i t =>
      match (t.slot i).item with
      | some item => if idMatches base mask item then purgeSlot i item t else t
      | none => t) s
  let gone := t.cst.badIds.filter fun b => idMatches base mask b.item
  let u := t.withCst { t.cst with
    badIds := t.cst.badIds.filter fun b => !idMatches base mask b.item }
  each gone (fun b => reportRelease b.item) u

/-- The purge cell of an applied live take in RUNNING (R133). -/
def takePurgeCell (base mask : BitVec 16) (serial : Word32) (s : State) : State :=
  if serial == s.cst.purgeSerial then s
  else purge base mask (s.withCst { s.cst with purgeSerial := serial })

/-! ## The command of the quarantine -/

/-- An id's quarantine has passed; its time stands still in IDLE (R129). -/
def State.quarantineDue (s : State) (item : Nat) : Bool :=
  s.dev.state != .idle && s.cst.badIds.any fun b => b.item == item && b.remaining == 0

/-- QUARANTINE_EXPIRY (R129). -/
def execQuarantineExpiry (item : Nat) (s : State) : Host.Outcome State Fault Refusal :=
  .next <| onlyIf (s.quarantineDue item)
    (fun t => reportRelease item <|
      t.withCst { t.cst with badIds := t.cst.badIds.filter fun b => b.item != item }) s

end Sys2Proof.Machine
end

