-- ==== Sys2Proof/Machine/Operands.lean ====
section
/-! DEFINITION. What the bytes that a command brings say: the fields of the Board formats, of a car
telegram and of a panel reply, each with the range its table gives it. A reader answers `none` where a
field is outside its range. -/

namespace Sys2Proof.Machine

/-! ## Codes read -/

/-- The value of an enumeration with a code, `none` where no value has it. -/
def ofCode {α : Type} (table : List α) (n : Nat) : Option α := table[n]?

def decks : List Deck := [.lower, .upper]
def motions : List Motion := [.stopped, .moving, .levelling]
def directions : List Direction := [.still, .up, .down]
def doors : List Door := [.closed, .opening, .opened, .closing]
def carModes : List CarMode := [.normal, .independent, .fireService, .outOfService]
def priorities : List Priority := [.clear, .notice, .service, .evacuate]
def routeModes : List RouteMode := [.off, .single, .rotate]
def tickSources : List TickSource := [.ms1, .ms10, .ms100]

/-- `n` when it lies in a range. -/
def inRange (lo hi n : Nat) : Option Nat := if lo ≤ n ∧ n ≤ hi then some n else none

/-- `n` lies in a range. -/
def within (lo hi n : Nat) : Bool := decide (lo ≤ n) && decide (n ≤ hi)

/-! ## The header (R23, R27) -/

/-- The tag of a header (R23). -/
def headerTag (b : List Byte) : Bool := num16At b 0 == 0x4C48

/-- The settings of a header as its bytes give them (R27). -/
def headerSettings (b : List Byte) : HeaderSettings :=
  { detachCount := numAt b 2, reattachCount := numAt b 3, scanInterval := num16At b 4,
    checkInterval := num16At b 6, entryTimeout := numAt b 8, holdTime := numAt b 9,
    lanternTime := numAt b 10, carLostTime := numAt b 11, answerTimeout := num16At b 12,
    expectationTimeout := num16At b 14, carStaleTime := num16At b 16, flushAge := num16At b 18,
    supplyBase := word32At b 20, carMask := word64At b 24, contentDirectory := word64At b 40,
    floorLabelTable := word64At b 48, carLabelTable := word64At b 56 }

/-- Every setting lies within its range, and the car lost time is above the car stale time (R23 step 4). -/
def HeaderSettings.inRange (h : HeaderSettings) : Bool :=
  within 1 15 h.detachCount && within 1 15 h.reattachCount
    && (h.scanInterval == 0 || within 5 1000 h.scanInterval) && within 50 2000 h.checkInterval
    && within 2 30 h.entryTimeout && within 1 30 h.holdTime && within 1 20 h.lanternTime
    && within 1 60 h.carLostTime && within 100 5000 h.answerTimeout
    && within 10 600 h.expectationTimeout && within 200 5000 h.carStaleTime
    && within 10 10000 h.flushAge && decide (h.carStaleTime < h.carLostTime * 1000)

/-- The heartbeat count of a header (R27). -/
def headerHeartbeat (b : List Byte) : Word32 := word32At b 32

/-- The entries of a label table, `width` bytes each. -/
def labelEntries (width count : Nat) (b : List Byte) : Vector (List Byte) count :=
  tbuild count fun i => (b.drop (i * width)).take width

/-! ## Car telegrams (R44) -/

/-- The fields of a car telegram's data characters, places 1 to 6 (R44, formats of file 03). -/
def telegramFields (d : List Byte) : Option Telegram := do
  let lower ← inRange 0 0xFE (numAt d 1)
  let motion ← ofCode motions (bitsOf (numAt d 3) 0 2)
  let direction ← ofCode directions (bitsOf (numAt d 3) 2 2)
  let door ← ofCode doors (bitsOf (numAt d 4) 0 2)
  let mode ← ofCode carModes (bitsOf (numAt d 5) 0 2)
  some
    { sequence := numAt d 0, lower := lower, upper := numAt d 2, motion := motion,
      direction := direction, door := door, mode := mode, full := bitOf (numAt d 5) 7 }

/-! ## Answer cells (R74) -/

/-- The verdicts of an answer. -/
inductive AnswerVerdict where
  | assigned | refused | redirectWait
  deriving DecidableEq, Repr

/-- An answer that passed its checks; the fields that its verdict does not use are as the cell holds
them (R74, R83). -/
structure Answer where
  ticket : Nat
  verdict : AnswerVerdict
  car : Nat
  deckCode : Nat
  reasonCode : Nat
  hold : Nat
  deriving DecidableEq, Repr

def AnswerVerdict.code : AnswerVerdict → Nat
  | .assigned => 1 | .refused => 2 | .redirectWait => 3

/-- The checks that a verdict makes of its fields (R74). -/
def Answer.fieldsInRange (mask : BitVec 64) (a : Answer) : Bool :=
  match a.verdict with
  | .assigned =>
    decide (a.hold ≤ 30) && decide (a.car < 64) && mask.getLsbD a.car && decide (a.deckCode < 2)
  | .refused => decide (a.hold ≤ 30) && (a.reasonCode == 1 || a.reasonCode == 2)
  | .redirectWait => true

/-- The answer in the body of an answer cell, from byte 4 of the cell on (R74). -/
def answerFields (mask : BitVec 64) (b : List Byte) : Option Answer := do
  let ticket ← inRange 1 65535 (num16At b 0)
  let verdict ← match numAt b 2 with
    | 1 => some AnswerVerdict.assigned
    | 2 => some .refused
    | 3 => some .redirectWait
    | _ => none
  let a : Answer :=
    { ticket := ticket, verdict := verdict, car := numAt b 3, deckCode := numAt b 4,
      reasonCode := numAt b 5, hold := numAt b 6 }
  if a.fieldsInRange mask then some a else none

/-- The deck an answer assigns. -/
def Answer.deck (a : Answer) : Deck := if a.deckCode = 1 then .upper else .lower

/-- The refusal reason an answer gives. -/
def Answer.reason (a : Answer) : Refusing := if a.reasonCode = 1 then .notServed else .restricted

/-! ## Override cells (R110) -/

/-- The host part that an override cell's body gives, from byte 4 of the cell on (R110). -/
def overrideFields (b : List Byte) : Option (Priority × Option Nat) := do
  let priority ← ofCode priorities (numAt b 0)
  if priority == .clear then some (.clear, none)
  else (inRange 0 4095 (num16At b 2)).map fun item => (priority, some item)

/-! ## Display cells (R2) -/

/-- The binding fields of a kind, each within its range (R2); `a` and `b` are bytes 13 and 14 of the cell,
`places` bytes 15 to 22. -/
def bindingFields (kind a b : Nat) (places : List Byte) : Option Binding :=
  match kind with
  | 1 => do
    let car ← inRange 0 63 a
    let deck ← ofCode decks b
    some (.carPosition car deck)
  | 2 => do
    let car ← inRange 0 63 a
    let floor ← inRange 0 253 b
    some (.hallLantern car floor)
  | 3 =>
    let cars := (places.take a).map (·.toNat)
    if 1 ≤ a ∧ a ≤ 8 ∧ (cars.all fun c => decide (c < 64)) = true ∧ cars.Nodup then
      some (.lobbyOverview cars)
    else none
  | 4 => do
    let slot ← inRange 0 127 a
    let floor ← inRange 0 253 b
    some (.keypad slot floor)
  | 5 => some .free
  | _ => none

/-- A template item 0 to 4095, or none for 0xFFFF (R2). -/
def templateField (n : Nat) : Option (Option Nat) :=
  if n = 0xFFFF then some none else (inRange 0 4095 n).map some

/-- The record that a display cell's body gives, from byte 4 of the cell on, its fields within their ranges
(R2). A cell of kind NONE makes the display UNBOUND, and its other fields are not read (R2, R4); that the record then
holds the values R1 gives at a reset is the model's choice (log 53). -/
def displayFields (b : List Byte) : Option DisplayRecord :=
  if numAt b 0 = 0 then some DisplayRecord.initial
  else do
    let binding ← bindingFields (numAt b 0) (numAt b 9) (numAt b 10) ((b.drop 11).take 8)
    let string ← inRange 0 15 (numAt b 1)
    let address ← inRange 1 31 (numAt b 2)
    let zone ← inRange 0 31 (numAt b 3)
    let template ← templateField (num16At b 4)
    let timer ← inRange 0 15 (numAt b 6)
    let brightness ← inRange 0 15 (numAt b 7)
    some
      { status := .bound, binding := binding, string := string, address := address, zone := zone,
        template := template, timer := timer, brightness := brightness,
        enable := bitOf (numAt b 8) 0, assist := bitOf (numAt b 8) 1 }

/-! ## The live configuration (R28, Board formats) -/

/-- The settings of a live configuration. -/
structure LiveSettings where
  strings : Vector StringSettings 16
  timers : Vector ChannelSettings 16
  windows : Vector LockWindow 4
  purgeBase : BitVec 16
  purgeMask : BitVec 16
  purgeSerial : Word32
  enables : Byte
  table : Vector RouteEntry 40
  fireMap : Vector (Word32 × Nat) 4
  deriving DecidableEq, Repr

/-- The place in the burst of a byte at a Board offset: the burst begins at 0x0104 (R28). -/
def liveAt (offset : Nat) : Nat := offset - 0x0104

/-- The settings of string `k` (Board formats). -/
def stringSettings (b : List Byte) (k : Nat) : StringSettings :=
  let control := liveAt 0x0104 + 4 * k
  let timing := num32At b (liveAt 0x0184 + 4 * k)
  let first := numAt b control
  { runRequest := bitOf first 0, halt := bitOf first 1, rateCode := bitsOf first 2 2,
    threshold := bitsOf first 4 3, replyTimeout := numAt b (control + 1),
    probeInterval := numAt b (control + 2), sweepInterval := bitsOf timing 0 11,
    settleTime := bitsOf timing 11 10, wakeTime := bitsOf timing 21 10 }

/-- A string's settings within their ranges. -/
def StringSettings.inRange (x : StringSettings) : Bool :=
  within 1 7 x.threshold && within 1 50 x.replyTimeout && within 1 64 x.probeInterval
    && within 10 2000 x.sweepInterval && within 10 1000 x.settleTime && within 10 1000 x.wakeTime

/-- The tick source code of channel `k`. -/
def sourceCode (b : List Byte) (k : Nat) : Nat := bitsOf (numAt b (liveAt 0x0144 + 4 * k + 2)) 0 2

/-- The settings of channel `k`; the cascade bit of an upper channel is not read (R172). -/
def timerSettings (b : List Byte) (k : Nat) : ChannelSettings :=
  let i := liveAt 0x0144 + 4 * k
  let flags := numAt b (i + 2)
  { reload := numAt b i, compare := numAt b (i + 1),
    source := (ofCode tickSources (sourceCode b k)).getD .ms1,
    cascade := k % 2 == 0 && bitOf flags 3, run := bitOf flags 2, serial := numAt b (i + 3) }

/-- Lock window `k`. -/
def lockWindow (b : List Byte) (k : Nat) : LockWindow :=
  let i := liveAt 0x01C4 + 8 * k
  { valid := numAt b i == 1, base := BitVec.ofNat 16 (num16At b (i + 1)),
    mask := BitVec.ofNat 16 (num16At b (i + 3)) }

/-- Lock window `k` lies within its ranges. -/
def lockWindowInRange (b : List Byte) (k : Nat) : Bool :=
  let i := liveAt 0x01C4 + 8 * k
  within 0 1 (numAt b i) && within 0 0xFFF (num16At b (i + 1)) && within 0 0xFFF (num16At b (i + 3))

/-- Routing table entry `k`, its cursor at E0 (R89). -/
def routeEntry (b : List Byte) (k : Nat) : RouteEntry :=
  let i := liveAt 0x0200 + 8 * k
  { mode := (ofCode routeModes (numAt b i)).getD .off, target := numAt b (i + 1),
    mask := byteAt b (i + 2), cursor := 0 }

/-- Routing table entry `k` passes the check of R28. -/
def routeEntryInRange (b : List Byte) (k : Nat) : Bool :=
  let i := liveAt 0x0200 + 8 * k
  match ofCode routeModes (numAt b i) with
  | some .off => true
  | some .single => within 0 7 (numAt b (i + 1))
  | some .rotate => byteAt b (i + 2) != 0
  | none => false

/-- Fire map entry `k`: its zone mask and item. -/
def fireEntry (b : List Byte) (k : Nat) : Word32 × Nat :=
  let i := liveAt 0x0340 + 6 * k
  (word32At b i, num16At b (i + 4))

/-- Every setting but those of the routing table lies within its range (R28). -/
def liveInRange (b : List Byte) : Bool :=
  ((List.range 16).all fun k => (stringSettings b k).inRange)
    && ((List.range 16).all fun k => sourceCode b k != 3)
    && ((List.range 4).all fun k => lockWindowInRange b k)
    && within 0 0xFFF (num16At b (liveAt 0x01E4)) && within 0 0xFFF (num16At b (liveAt 0x01E4 + 2))
    && (List.range 4).all fun k => within 0 4095 (fireEntry b k).2

/-- Every routing entry passes its check (R28). -/
def routingInRange (b : List Byte) : Bool := (List.range 40).all fun k => routeEntryInRange b k

/-- The settings of a live configuration whose burst is `b`. -/
def liveSettings (b : List Byte) : LiveSettings :=
  { strings := tbuild 16 (stringSettings b), timers := tbuild 16 (timerSettings b),
    windows := tbuild 4 (lockWindow b),
    purgeBase := BitVec.ofNat 16 (num16At b (liveAt 0x01E4)),
    purgeMask := BitVec.ofNat 16 (num16At b (liveAt 0x01E4 + 2)),
    purgeSerial := word32At b (liveAt 0x01E4 + 4), enables := byteAt b (liveAt 0x01F4),
    table := tbuild 40 (routeEntry b), fireMap := tbuild 4 (fireEntry b) }

/-- A take is clean when the lead count, the tail count and the lead count again are equal; the tail count
is the last four bytes of the burst (R29). -/
def tailOf (burst : List Byte) : Word32 := word32At burst (burst.length - 4)

def cleanTake (lead : Word32) (burst : List Byte) (again : Word32) : Bool :=
  tailOf burst == lead && again == lead

/-! ## Replies of panels (R158) -/

/-- The keys of a keypad panel. -/
inductive Key where
  | digit (value : Nat)
  | enter | clear | access
  deriving DecidableEq, Repr

/-- A key code of a reply (formats of file 09). -/
def keyOf (code : Nat) : Option Key :=
  if code ≤ 9 then some (.digit code)
  else match code with
    | 10 => some .enter
    | 11 => some .clear
    | 12 => some .access
    | _ => none

/-- Key codes in order, `none` where one is no key. -/
def keysOf : List Nat → Option (List Key)
  | [] => some []
  | c :: rest => do
    let k ← keyOf c
    let ks ← keysOf rest
    some (k :: ks)

/-- A GOOD reply. -/
structure Reply where
  type : Nat
  sequence : Nat
  keys : List Key
  light : Nat
  deriving DecidableEq, Repr

/-- The reply that ten characters make to a telegram, `none` where it is a BAD_REPLY (R158). -/
def replyFields (address : Nat) (command : Command) (b : List Byte) : Option Reply := do
  let sequence := bitsOf (numAt b 3) 0 4
  let count := bitsOf (numAt b 3) 4 3
  let kind := if command == .enumerate then 2 else 1
  if crc8 (b.take 9) == byteAt b 9 && numAt b 0 == address && numAt b 1 == kind
      && decide (1 ≤ numAt b 2) && decide (numAt b 2 ≤ 5) && decide (count ≤ 4)
      && ((count == 0) == (sequence == 0)) then
    let keys ← keysOf ((List.range count).map fun i => numAt b (4 + i))
    some { type := numAt b 2, sequence := sequence, keys := keys, light := numAt b 8 }
  else none

end Sys2Proof.Machine
end

