-- ==== Sys2Proof/Machine/Cars.lean ====
section
/-! DEFINITION. The Car Link Unit (file 03): link receivers, car records and lantern records, and the
commands of the car links, of the silence timers and of the lantern timers. -/

namespace Sys2Proof.Machine

/-! ## Labels (R54) -/

/-- The no-floor text (R54). -/
def noFloorText : List Byte := [0x2D, 0x2D, 0x20, 0x20]

/-- The four characters shown for a floor, `none` for no floor (R54). -/
def State.floorLabel (s : State) : Option Nat → List Byte
  | some floor => padTo 4 (tget s.clu.floorLabels floor [])
  | none => noFloorText

/-- The two characters of a car's label (R54). -/
def State.carLabel (s : State) (car : Nat) : List Byte := padTo 2 (tget s.clu.carLabels car [])

/-! ## Lantern records (R55 to R60) -/

/-- Replaces a lantern record, asking for recomposition where its state, expected count or arrival
direction changes (R55). -/
def changeLantern (d : Nat) (new : Lantern) (s : State) : State :=
  match s.lantern d with
  | none => s
  | some old =>
    let t := s.setLantern d (some new)
    if old.state != new.state || old.expected != new.expected || old.direction != new.direction then
      askRecompose .session d t
    else t

/-- A change made to the lantern record of one display, if there is one. -/
def alterLantern (f : Lantern → Lantern) (d : Nat) (s : State) : State :=
  match s.lantern d with
  | none => s
  | some x => changeLantern d (f x) s

/-- A change made to every lantern record that satisfies `p`. -/
def alterLanterns (p : Lantern → Bool) (f : Lantern → Lantern) (s : State) : State :=
  each (twhere s.clu.lanterns fun o => o.any p) (alterLantern f) s

/-- An arrival (R56). -/
def Lantern.arrive (time : Nat) (direction : Direction) (x : Lantern) : Lantern :=
  { x with state := .arriving, remaining := some time, expected := 0, direction := direction }

/-- The end of ARRIVING by the lantern time or a departure; nothing in another state (R57). -/
def Lantern.leaveArriving (x : Lantern) : Lantern :=
  if x.state == .arriving then
    { x with state := if 0 < x.expected then .expected else .dark, remaining := none,
             direction := .still }
  else x

/-- An assignment (R58). -/
def Lantern.expect (now : Word32) (x : Lantern) : Lantern :=
  { x with expected := min 15 (x.expected + 1), lastIncrement := now,
           state := if x.state == .dark then .expected else x.state }

/-- The expected count falls to 0 (R59, and R60 for a leave of ATTACHED). -/
def Lantern.unexpect (x : Lantern) : Lantern :=
  { x with expected := 0, state := if x.state == .expected then .dark else x.state }

/-- The car is lost (R60; the arrival direction of a dark lantern is none, log 34). -/
def Lantern.carLost (x : Lantern) : Lantern :=
  { x with expected := 0, state := .dark, remaining := none, direction := .still }

/-- The assignment of a car at an origin floor, passed by the DRQ (R58), in STOPPING too (log 41). -/
def assignLanterns (car floor : Nat) (s : State) : State :=
  if (s.car car).state == .lost || !s.attached then s
  else alterLanterns (fun x => x.car == car && x.floor == floor) (Lantern.expect s.dev.time) s

/-- Presence leaves ATTACHED (R60), in STOPPING too (log 42). -/
def lanternsDetached (s : State) : State := alterLanterns (fun _ => true) Lantern.unexpect s

/-! ## Car records (R45 to R53) -/

/-- The displays that show a car's record (R45). -/
def Binding.showsCar (car : Nat) : Binding → Bool
  | .carPosition c _ => c == car
  | .lobbyOverview cars => cars.contains car
  | .unused | .hallLantern .. | .keypad .. | .free => false

/-- A changed car record's mirror mark and recomposition requests (R45). -/
def carChanged (car : Nat) (s : State) : State :=
  askWhere .plain (fun r => r.binding.showsCar car) (markDirty (.car car) s)

/-- A telegram follows: the gap count rises unless the sequence is the next one (R46). -/
def Car.gapsAfter (x : Car) (m : Telegram) : Nat :=
  if x.state != .unheard && m.sequence != (x.sequence + 1) % 256 then min 255 (x.gaps + 1) else x.gaps

/-- The floor a deck has last shown after a telegram's floor for it (R46). -/
def shownAfter (old : Option Nat) (floor : Nat) : Option Nat :=
  if floor ≤ 253 then some floor else if floor = 0xFF then none else old

/-- The car record after an accepted telegram (R46, R48). -/
def Car.accept (now : Word32) (m : Telegram) (x : Car) : Car :=
  { state := .fresh, lower := m.lower, upper := m.upper,
    lowerShown := shownAfter x.lowerShown m.lower, upperShown := shownAfter x.upperShown m.upper,
    motion := m.motion, direction := m.direction, door := m.door, mode := m.mode, full := m.full,
    sequence := m.sequence, gaps := x.gapsAfter m, lastTime := now }

/-- An arrival (R50); a car not heard before has no telegram to compare (R48). -/
def Telegram.arrives (m : Telegram) (x : Car) : Bool :=
  x.state != .unheard && m.motion == .stopped && m.door == .opening
    && (x.motion == .moving || x.motion == .levelling || x.door == .closed)

/-- A departure (R51). -/
def Telegram.departs (m : Telegram) (x : Car) : Bool :=
  x.state != .unheard && m.motion == .moving && (x.motion == .stopped || x.motion == .levelling)

/-- A mode change (R49). -/
def Telegram.changesMode (m : Telegram) (x : Car) : Bool := x.state != .unheard && m.mode != x.mode

/-- One deck's arrival: its event and its lanterns (R50, R53, R56). -/
def deckArrival (car : Nat) (deck : Deck) (floor : Nat) (m : Telegram) (s : State) : State :=
  if floor ≤ 253 then
    alterLanterns (fun x => x.car == car && x.floor == floor)
      (Lantern.arrive (s.hdr.lanternTime * 1000) m.direction)
      (offerClass .carArrival car
        [BitVec.ofNat 8 deck.code, BitVec.ofNat 8 floor, BitVec.ofNat 8 m.direction.code,
         BitVec.ofNat 8 m.door.code, BitVec.ofNat 8 m.mode.code, flagByte m.full] s)
  else s

/-- CAR_BACK (R48, R53). -/
def offerCarBack (car : Nat) (m : Telegram) (s : State) : State :=
  offerClass .carBack car
    [BitVec.ofNat 8 m.lower, BitVec.ofNat 8 m.upper, BitVec.ofNat 8 m.mode.code,
     BitVec.ofNat 8 m.sequence] s

/-- CAR_MODE (R49, R53): the floors are those of the record after the replacement (log 25). -/
def offerCarMode (car : Nat) (old : CarMode) (m : Telegram) (s : State) : State :=
  offerClass .carMode car
    [BitVec.ofNat 8 old.code, BitVec.ofNat 8 m.mode.code, BitVec.ofNat 8 m.lower,
     BitVec.ofNat 8 m.upper] s

/-- The work of one accepted telegram, in the order of R52. -/
def acceptTelegram (car : Nat) (m : Telegram) (s : State) : State :=
  let x := s.car car
  carChanged car <|
    onlyIf (m.departs x) (alterLanterns (fun l => l.car == car) Lantern.leaveArriving) <|
    onlyIf (m.arrives x) (deckArrival car .upper m.upper m) <|
    onlyIf (m.arrives x) (deckArrival car .lower m.lower m) <|
    onlyIf (m.changesMode x) (offerCarMode car x.mode m) <|
    onlyIf (x.state == .lost) (offerCarBack car m) <|
    s.setCar car (x.accept s.dev.time m)

/-- A telegram handed on to its car record: accepted unless it is a duplicate (R46). -/
def takeTelegram (car : Nat) (m : Telegram) (s : State) : State :=
  if (s.car car).state != .unheard && m.sequence == (s.car car).sequence then s
  else acceptTelegram car m s

/-- A telegram dropped: the link's error count rises, saturating (R44). -/
def dropTelegram (l : Nat) (s : State) : State :=
  let x := s.link l
  s.setLink l { x with errors := min 65535 (x.errors + 1) }

/-- A complete telegram is checked and taken, or dropped (R44). -/
def checkTelegram (l : Nat) (header : Byte) (data : List Byte) (s : State) : State :=
  let car := l * 8 + bitsOf header.toNat 0 3
  if crc8 (header :: data.take 6) != byteAt data 6 then dropTelegram l s
  else match telegramFields data with
    | none => dropTelegram l s
    | some m => if s.configured car then takeTelegram car m s else dropTelegram l s

/-- The receiver of a link set. -/
def setReceiver (l : Nat) (r : Receiver) (s : State) : State :=
  s.setLink l { s.link l with receiver := r }

/-- A link receiver takes one character (R43). -/
def receiveChar (l : Nat) (c : LineChar) (s : State) : State :=
  match (s.link l).receiver with
  | .hunt => if c.stop && c.marker then setReceiver l (.collecting c.data []) s else s
  | .collecting header data =>
    if !c.stop then dropTelegram l (setReceiver l .hunt s)
    else if c.marker then dropTelegram l (setReceiver l (.collecting c.data []) s)
    else if data.length < 6 then setReceiver l (.collecting header (data ++ [c.data])) s
    else checkTelegram l header (data ++ [c.data]) (setReceiver l .hunt s)

/-- Characters of a link, taken one after another; outside RUNNING each is discarded (R43). -/
def receiveChars (l : Nat) (chars : List LineChar) (s : State) : State :=
  if s.isRunning then each chars (receiveChar l) s else s

/-- Every receiver set to HUNT (R43). -/
def huntAll (s : State) : State :=
  s.withClu { s.clu with links := tmap (fun x => { x with receiver := Receiver.hunt }) s.clu.links }

/-- Entry to LOST (R47, R53, R60). -/
def loseCar (car : Nat) (s : State) : State :=
  let x := s.car car
  carChanged car <|
    alterLanterns (fun l => l.car == car) Lantern.carLost <|
    offerClass .carLost car
      ([BitVec.ofNat 8 x.lower, BitVec.ofNat 8 x.upper, BitVec.ofNat 8 x.gaps]
        ++ leBytes 2 (s.link (car / 8)).errors) <|
    s.setCar car { x with state := .lost }

/-! ## The commands -/

/-- CAR_TELEGRAM (R43, R44, R46 to R53). -/
def execCarTelegram (link : Fin 8) (chars : List LineChar) (s : State) :
    Host.Outcome State Fault Refusal := .next (receiveChars link.val chars s)

/-- CAR_TELEGRAM_BROKEN (R43, R44). -/
def execCarTelegramBroken (link : Fin 8) (char : LineChar) (s : State) :
    Host.Outcome State Fault Refusal := .next (receiveChars link.val [char] s)

/-- The car stale time has passed since the last accepted telegram (R47). -/
def State.staleDue (s : State) (car : Nat) : Bool :=
  s.isRunning && (s.car car).state == .fresh
    && decide (s.hdr.carStaleTime ≤ s.since (s.car car).lastTime)

/-- The car lost time has passed, for a car that R47 lets go to LOST. -/
def State.lostDue (s : State) (car : Nat) : Bool :=
  s.isRunning && s.configured car && (s.car car).state != .lost
    && decide (s.hdr.carLostTime * 1000 ≤ s.since (s.car car).lastTime)

/-- CAR_STALE_EXPIRY (R47). -/
def execCarStaleExpiry (car : Fin 64) (s : State) : Host.Outcome State Fault Refusal :=
  .next <| onlyIf (s.staleDue car.val)
    (fun t => carChanged car.val (t.setCar car.val { t.car car.val with state := .stale })) s

/-- CAR_LOST_EXPIRY (R47). -/
def execCarLostExpiry (car : Fin 64) (s : State) : Host.Outcome State Fault Refusal :=
  .next <| onlyIf (s.lostDue car.val) (loseCar car.val) s

/-- The lantern time of a display's record has passed (R57). -/
def State.lanternDue (s : State) (d : Nat) : Bool :=
  s.isRunning && (s.lantern d).any fun x => x.state == .arriving && timerDue x.remaining

/-- The expectation timeout has passed since the last raise of a count above 0 (R59). -/
def State.expectationDue (s : State) (d : Nat) : Bool :=
  s.isRunning && (s.lantern d).any fun x =>
    decide (0 < x.expected) && decide (s.hdr.expectationTimeout * 1000 ≤ s.since x.lastIncrement)

/-- LANTERN_TIME_EXPIRY (R57). -/
def execLanternTimeExpiry (display : Fin 512) (s : State) : Host.Outcome State Fault Refusal :=
  .next <| onlyIf (s.lanternDue display.val) (alterLantern Lantern.leaveArriving display.val) s

/-- EXPECTATION_EXPIRY (R59). -/
def execExpectationExpiry (display : Fin 512) (s : State) : Host.Outcome State Fault Refusal :=
  .next <| onlyIf (s.expectationDue display.val) (alterLantern Lantern.unexpect display.val) s

end Sys2Proof.Machine
end

