-- ==== Sys2Proof/Machine/Requests.lean ====
section
/-! DEFINITION. The Destination Request Unit (file 04): keypad sessions, tickets, keys, answers, and the
commands of the session timer. -/

namespace Sys2Proof.Machine

/-! ## A session and its record -/

/-- The record that holds a session's slot. -/
def State.recordOf (s : State) (x : Session) : DisplayRecord := s.display x.display

/-- The keypad slot and origin floor that a BOUND record holds. -/
def DisplayRecord.slot (r : DisplayRecord) : Option (Nat × Nat) :=
  match r.status, r.binding with
  | .bound, .keypad slot floor => some (slot, floor)
  | _, _ => none

/-- The origin floor that a KEYPAD record gives its session. -/
def DisplayRecord.origin (r : DisplayRecord) : Nat :=
  match r.binding with
  | .keypad _ floor => floor
  | .unused | .carPosition .. | .hallLantern .. | .lobbyOverview .. | .free => 0

/-- The origin floor of a session (R66). -/
def State.originOf (s : State) (x : Session) : Nat := (s.recordOf x).origin

/-- The digits of a session as three characters, 0x20 where none is held (R84). -/
def digitChars (digits : List Nat) : List Byte :=
  (List.range 3).map fun i =>
    match digits[i]? with
    | some d => BitVec.ofNat 8 (0x30 + d)
    | none => 0x20

/-- Field bytes 0 to 9 of a KEYPAD plan (formats of file 04). -/
def keypadFields (digits : List Nat) (assist : Bool) (label : List Byte) (deck arrow reason : Nat)
    (blink : Bool) : List Byte :=
  digitChars digits ++ [flagByte assist] ++ padTo 2 label
    ++ [BitVec.ofNat 8 deck, BitVec.ofNat 8 arrow, BitVec.ofNat 8 reason, flagByte blink]

/-- The arrow of SHOWING: UP or DOWN from the origin floor to the destination (R84). -/
def showingArrow (origin : Nat) : Option Nat → Nat
  | none => 0
  | some floor => if origin < floor then 1 else if floor < origin then 2 else 0

/-- The live plan of a session's display: its item, `none` for the template, and fields 0 to 9 (R84). -/
def keypadPlan (s : State) (x : Session) : Option Nat × List Byte :=
  match x.state with
  | .idle => (none, keypadFields [] x.access [] 0 0 0 false)
  | .entering => (none, keypadFields x.digits x.access [] 0 0 0 false)
  | .waiting => (some 4089, keypadFields [] false [] 0 0 0 true)
  | .showing =>
    (none, keypadFields [] x.access (tget s.clu.carLabels x.car []) x.deck.code
      (showingArrow (s.originOf x) x.destination) 0 false)
  | .refused => (some 4095, keypadFields [] false [] 0 0 x.refusal.code false)
  | .invalid => (some 4091, keypadFields [] false [] 0 0 0 false)
  | .fallback =>
    (some (if x.fallback == .busy then 4092 else 4090), keypadFields [] false [] 0 0 0 false)
  | .blocked => (some 4088, keypadFields [] false [] 0 0 0 false)

/-- The four fields of the keypad mirror (R85). -/
def Session.mirrorFields (x : Session) : Nat × Nat × Nat × Option Nat :=
  (x.state.code, x.fallback.code, x.ticket, x.route)

/-- Replaces a session: the mirror is marked when one of its four fields changes (R85), and the display is
recomposed when the plan of R84 changes. -/
def commitSession (n : Nat) (new : Session) (s : State) : State :=
  let old := s.session n
  onlyIf (new.bound && keypadPlan s old != keypadPlan s new) (askRecompose .session new.display) <|
    onlyIf (old.mirrorFields != new.mirrorFields) (markDirty (.keypad n)) <|
    s.setSession n new

/-- A session's mirror mark and recomposition request, made once (R66, R67). -/
def sessionTouched (n : Nat) (s : State) : State :=
  askRecompose .session (s.session n).display (markDirty (.keypad n) s)

/-! ## Times of the session timer (R73) -/

def State.entryTime (s : State) : Option Nat := some (s.hdr.entryTimeout * 1000)
def State.answerTime (s : State) : Option Nat := some s.hdr.answerTimeout
def State.holdTime (s : State) : Option Nat := some (s.hdr.holdTime * 1000)

/-- The hold time of an answer: its override when it is 1 to 30 (R73). -/
def State.answerHold (s : State) (a : Answer) : Option Nat :=
  if a.hold = 0 then s.holdTime else some (a.hold * 1000)

/-! ## Tickets (R70, R79, R86) -/

/-- Some session that is WAITING holds the ticket. -/
def State.ticketHeld (s : State) (ticket : Nat) : Bool :=
  (tlist s.drq.sessions).any fun x => x.state == .waiting && x.ticket == ticket

/-- The next ticket: the first after the last issued one that is not 0 and not held; at most 129 values
need be tried, since 128 sessions can hold one (R70, R86). -/
def State.nextTicket (s : State) : Nat :=
  (((List.range 130).map fun k => (s.drq.lastTicket + 1 + k) % 65536).find? fun t =>
    t != 0 && !s.ticketHeld t).getD 0

/-- The retirement of a ticket (R79). -/
def Session.retire (kind : RetiredKind) (why : Withdrawal) (x : Session) : Session :=
  { x with retiredTicket := x.ticket, retiredRoute := x.route, retiredKind := kind, withdrawal := why,
           ticket := 0, route := none, redirected := false }

/-- The retirement by a USED answer leaves the withdrawal reason (R79). -/
def Session.retireAnswered (x : Session) : Session := x.retire .answered x.withdrawal

/-- DEST_CANCEL, offered to the session's route before the retirement, with the zone and origin floor of the
record `r` that binds the session (R79, R83). -/
def cancelFor (r : DisplayRecord) (n : Nat) (why : Withdrawal) (s : State) : State :=
  let x := s.session n
  offerTo x.route
    { kind := .destCancel, cls := r.zone, source := n, ticket := x.ticket,
      payload := [BitVec.ofNat 8 why.code, BitVec.ofNat 8 r.origin,
                  BitVec.ofNat 8 (x.destination.getD 0)],
      time := s.dev.time } s

/-- DEST_CANCEL of a session whose record stands (R79, R83). -/
def offerCancel (n : Nat) (why : Withdrawal) (s : State) : State :=
  cancelFor (s.recordOf (s.session n)) n why s

/-- A WAITING session that the record `r` binds, withdrawn with a cancel: the offer and the retirement (R79). -/
def withdrawFor (r : DisplayRecord) (n : Nat) (why : Withdrawal) (s : State) : State :=
  (cancelFor r n why s).setSession n ((s.session n).retire .withdrawn why)

/-- A WAITING session whose record stands, withdrawn with a cancel (R79). -/
def withdraw (n : Nat) (why : Withdrawal) (s : State) : State :=
  withdrawFor (s.recordOf (s.session n)) n why s

/-! ## Keys (R67 to R72) -/

/-- The end of a hold: back to IDLE with the hold fields cleared (R72). -/
def Session.endHold (x : Session) : Session :=
  { x with state := .idle, access := false, destination := none, car := 0, deck := .lower,
           refusal := .unset, fallback := .unset, timer := none }

/-- The start of an entry with one digit (R68, R72). -/
def Session.startEntry (digit : Nat) (time : Option Nat) (x : Session) : Session :=
  { x with state := .entering, digits := [digit], timer := time }

/-- The ACCESS key in IDLE or ENTERING (R68). -/
def Session.askAccess (time : Option Nat) (x : Session) : Session :=
  { x with access := true, timer := time }

/-- FALLBACK, with the ACCESS flag cleared and a hold time (R69, R70, R80, R82). -/
def Session.fallBack (why : FallbackReason) (time : Option Nat) (x : Session) : Session :=
  { x with state := .fallback, fallback := why, access := false, timer := time }

/-- The end of an entry by CLEAR or by the entry timeout (R68). -/
def Session.endEntry (x : Session) : Session :=
  { x with state := .idle, digits := [], access := false, timer := none }

/-- The lowest floor whose label equals the digits (R69). -/
def State.floorOf (s : State) (digits : List Nat) : Option Nat :=
  let chars := padded digits
  (List.range 254).find? fun f => tget s.clu.floorLabels f [] == chars
where
  padded (digits : List Nat) : List Byte := digitChars digits ++ [0x20]

/-- The DEST_REQUEST offer (R70). -/
def offerRequest (n floor : Nat) (s : State) : State :=
  let x := s.session n
  let zone := (s.recordOf x).zone
  let ticket := s.nextTicket
  let entered := { x with digits := [], destination := some floor }
  match offerVia zone
      { kind := .destRequest, cls := zone, source := n, ticket := ticket,
        payload := [BitVec.ofNat 8 (s.originOf x), BitVec.ofNat 8 floor, flagByte x.access],
        time := s.dev.time } s with
  | (t, some r) =>
    (t.withDrq { t.drq with lastTicket := ticket }).setSession n
      { entered with state := .waiting, ticket := ticket, route := some r, redirected := false,
                     timer := s.answerTime }
  | (t, none) => t.setSession n (entered.fallBack .busy s.holdTime)

/-- INVALID, with a hold time (R69). -/
def Session.invalidate (floor : Option Nat) (time : Option Nat) (x : Session) : Session :=
  { x with state := .invalid, digits := [], destination := floor, access := false, timer := time }

/-- ENTER in ENTERING (R69). -/
def enterKey (n : Nat) (s : State) : State :=
  let x := s.session n
  match s.floorOf x.digits with
  | none => s.setSession n (x.invalidate none s.holdTime)
  | some floor =>
    if floor = s.originOf x then s.setSession n (x.invalidate (some floor) s.holdTime)
    else if s.attached then offerRequest n floor s
    else
      s.setSession n
        (({ x with digits := [], destination := some floor }).fallBack .detached s.holdTime)

/-- One key, applied to the state left by the one before (R67 to R72). -/
def applyKey (n : Nat) (k : Key) (s : State) : State :=
  let x := s.session n
  if k == .access && !(s.recordOf x).assist then s
  else match x.state, k with
    | .idle, .digit d => s.setSession n (x.startEntry d s.entryTime)
    | .idle, .access => s.setSession n (x.askAccess s.entryTime)
    | .idle, .clear => s.setSession n { x with access := false, timer := none }
    | .idle, .enter => s
    | .entering, .digit d =>
      if x.digits.length < 3 then
        s.setSession n { x with digits := x.digits ++ [d], timer := s.entryTime }
      else s
    | .entering, .access => s.setSession n (x.askAccess s.entryTime)
    | .entering, .clear => s.setSession n x.endEntry
    | .entering, .enter => enterKey n s
    | .waiting, .clear =>
      let t := withdraw n .clear s
      t.setSession n { t.session n with state := .idle, access := false, timer := none }
    | .waiting, .digit _ | .waiting, .enter | .waiting, .access => s
    | .blocked, _ => s
    | .showing, k | .refused, k | .fallback, k | .invalid, k =>
      match k with
      | .digit d => s.setSession n (x.endHold.startEntry d s.entryTime)
      | .access => s.setSession n (x.endHold.askAccess s.entryTime)
      | .clear => s.setSession n x.endHold
      | .enter => s

/-- The keys of one reply, one delivery: applied in RUNNING to a bound slot, with one mark and one request
if the session changed (R67). -/
def deliverKeys (n : Nat) (keys : List Key) (s : State) : State :=
  if s.isRunning && (s.session n).bound then
    let t := each keys (applyKey n) s
    onlyIf (t.session n != s.session n) (sessionTouched n) t
  else s

/-! ## Blocking (R81) -/

/-- The two block causes. -/
inductive BlockCause where
  | evac | offline
  deriving DecidableEq, Repr

def BlockCause.withdrawal : BlockCause → Withdrawal
  | .evac => .evac | .offline => .offline

/-- The session with a block cause set or cleared. -/
def Session.setBlock (c : BlockCause) (on : Bool) (x : Session) : Session :=
  match c with
  | .evac => { x with evac := on }
  | .offline => { x with offline := on }

def Session.blockedBy (c : BlockCause) (x : Session) : Bool :=
  match c with
  | .evac => x.evac
  | .offline => x.offline

/-- Entry to BLOCKED (R81). -/
def Session.block (x : Session) : Session :=
  { x with state := .blocked, digits := [], access := false, destination := none, car := 0,
           deck := .lower, refusal := .unset, fallback := .unset, timer := none }

/-- A block cause set: BLOCKED from any state, a WAITING request withdrawn (R81). -/
def setBlockCause (c : BlockCause) (n : Nat) (s : State) : State :=
  let x := s.session n
  if x.blockedBy c then s
  else if x.state == .blocked then commitSession n (x.setBlock c true) s
  else
    let t := if x.state == .waiting then offerCancel n c.withdrawal s else s
    let y := if x.state == .waiting then x.retire .withdrawn c.withdrawal else x
    commitSession n (y.block.setBlock c true) t

/-- A block cause cleared: with both clear a BLOCKED session goes to IDLE (R81). -/
def clearBlockCause (c : BlockCause) (n : Nat) (s : State) : State :=
  let x := (s.session n).setBlock c false
  commitSession n
    (if x.state == .blocked && !x.evac && !x.offline then { x with state := .idle, timer := none }
     else x) s

/-- A block cause set or cleared. -/
def putBlockCause (c : BlockCause) (on : Bool) (n : Nat) (s : State) : State :=
  if on then setBlockCause c n s else clearBlockCause c n s

/-- The slots of the bound sessions whose record stands in a zone. -/
def State.slotsOfZone (s : State) (z : Nat) : List Nat :=
  twhere s.drq.sessions fun x => x.bound && (s.recordOf x).zone == z

/-- The Override Unit's notice that a zone's override has become EVACUATE, or anything else (R81), taken by
the zone's sessions in ascending slots (log 43). -/
def noticeEvac (z : Nat) (evacuate : Bool) (s : State) : State :=
  each (s.slotsOfZone z) (putBlockCause .evac evacuate) s

/-- The String Controllers' report that a panel has become OFFLINE or has left it, acting in RUNNING
(R81; log 31). -/
def reportOffline (display : Nat) (offline : Bool) (s : State) : State :=
  if s.isRunning then
    each (twhere s.drq.sessions fun x => x.bound && x.display == display)
      (putBlockCause .offline offline) s
  else s

/-! ## Binding (R66) -/

/-- The effective override of a zone is EVACUATE. -/
def State.evacuated (s : State) (z : Nat) : Bool := (s.zone z).priority == .evacuate

/-- A slot is bound by display `d`, whose record is in place; `offline` says that its panel stayed in the
schedule and is OFFLINE (R66). It acts in STOPPING as in RUNNING (log 47). -/
def bindSession (n d : Nat) (offline : Bool) (s : State) : State :=
  let x := s.session n
  let fresh : Session :=
    { Session.initial with
      bound := true, display := d, retiredTicket := x.retiredTicket, retiredRoute := x.retiredRoute,
      retiredKind := x.retiredKind, withdrawal := x.withdrawal }
  let evac := s.evacuated (s.display d).zone
  let y := { fresh with evac := evac, offline := offline }
  sessionTouched n (s.setSession n (if evac || offline then y.block else y))

/-- A slot is unbound from the record `old`, whose zone and origin floor its cancel carries (R66; log 14); no
field of a hold outlives it (R85; log 32). The request for recomposition is for the KEYPAD display that is
still bound to the slot, as at a change of origin floor, and there is else none (R9). It acts in STOPPING as in
RUNNING (log 47). -/
def unbindSession (old : DisplayRecord) (n : Nat) (s : State) : State :=
  let t := if (s.session n).state == .waiting then withdrawFor old n .unbound s else s
  let x := t.session n
  let u := markDirty (.keypad n) <|
    t.setSession n { x.endHold with bound := false, digits := [], evac := false, offline := false }
  onlyIf ((u.recordOf x).slot.map Prod.fst == some n) (askRecompose .session x.display) u

/-- `f` done to a session, with a mirror mark and a recomposition request if it changed (R66). -/
def rebindChange (n : Nat) (f : State → State) (s : State) : State :=
  let t := f s
  onlyIf (t.session n != s.session n) (sessionTouched n) t

/-- The record's zone, now `z`, or its assist flag has changed: the EVAC cause is set afresh (R66), in STOPPING
as in RUNNING (log 47). -/
def sessionZoneChanged (n z : Nat) (s : State) : State :=
  rebindChange n (putBlockCause .evac (s.evacuated z) n) s

/-- The record's panel has changed: the OFFLINE cause is cleared (R66), in STOPPING as in RUNNING (log 47). -/
def sessionPanelChanged (n : Nat) (s : State) : State :=
  rebindChange n (clearBlockCause .offline n) s

/-! ## Answers (R74 to R78) -/

/-- The answer timer's expiry, or a second REDIRECT_WAIT (R78, R80). -/
def Session.noAnswer (time : Option Nat) (x : Session) : Session :=
  (x.retire .withdrawn .noAnswer).fallBack .noAnswer time

/-- A USED answer applied by its verdict (R76, R77, R78). -/
def applyAnswer (n : Nat) (a : Answer) (s : State) : State :=
  let x := s.session n
  match a.verdict with
  | .assigned =>
    assignLanterns a.car (s.originOf x) <|
      commitSession n
        { x.retireAnswered with state := .showing, car := a.car, deck := a.deck,
                                timer := s.answerHold a } s
  | .refused =>
    commitSession n
      { x.retireAnswered with state := .refused, refusal := a.reason, access := false,
                              timer := s.answerHold a } s
  | .redirectWait =>
    if x.redirected then commitSession n (x.noAnswer s.holdTime) s
    else commitSession n { x with redirected := true, timer := s.answerTime } s

/-- The class/zone field of an event of a session: its record's zone, and an open value below 32 where no
record holds the slot (log 15). -/
def State.sessionZone (s : State) (x : Session) : Nat :=
  if x.bound then (s.recordOf x).zone else s.free 32

/-- ANSWER_LATE, offered to the retired route; the retired kind becomes REPORTED (R75, R83). -/
def offerLate (n : Nat) (a : Answer) (s : State) : State :=
  let x := s.session n
  let e : Event :=
    { kind := .answerLate, cls := s.sessionZone x, source := n, ticket := a.ticket,
      payload := [BitVec.ofNat 8 a.verdict.code, BitVec.ofNat 8 a.car, BitVec.ofNat 8 a.deckCode,
                  BitVec.ofNat 8 x.withdrawal.code],
      time := s.dev.time }
  let t := if x.bound then s else s.withFreeUsed (s.freeUsed + 1)
  (offerTo x.retiredRoute e t).setSession n { x with retiredKind := .reported }

/-- The answer is for the ticket of the session in slot `n` (R75). -/
def State.answerMatches (s : State) (n : Nat) (a : Answer) : Bool :=
  let x := s.session n
  x.bound && x.state == .waiting && x.ticket == a.ticket

/-- The answer is for the session's retired ticket, withdrawn and not yet reported late (R75). -/
def State.answerWithdrawn (s : State) (n : Nat) (a : Answer) : Bool :=
  let x := s.session n
  a.ticket == x.retiredTicket && x.retiredKind == .withdrawn

/-- A new take of answer cell `n`, from byte 4 of the cell on: the state after it and its receipt's verdict
and reason (R74, R75). -/
def takeAnswer (n : Nat) (body : List Byte) (s : State) : State × Verdict × Reason :=
  match answerFields s.hdr.carMask body with
  | none => (s, .rejected, .range)
  | some a =>
    if s.answerMatches n a then (applyAnswer n a s, .used, .unset)
    else if s.answerWithdrawn n a then (offerLate n a s, .late, .unset)
    else (s, .late, .unset)

/-! ## Presence (R82) -/

/-- Presence has left ATTACHED: every WAITING session goes to FALLBACK (R82). -/
def sessionsDetached (s : State) : State :=
  each (twhere s.drq.sessions fun x => x.state == .waiting)
    (fun n t =>
      commitSession n
        (((t.session n).retire .withdrawn .detached).fallBack .detached t.holdTime) t) s

/-! ## The commands -/

/-- The session's timer has expired in one of the states given (R73). -/
def State.sessionDue (s : State) (n : Nat) (states : List SessionState) : Bool :=
  s.isRunning && states.contains (s.session n).state && timerDue (s.session n).timer

/-- ENTRY_TIMEOUT_EXPIRY (R68). -/
def execEntryTimeoutExpiry (slot : Fin 128) (s : State) : Host.Outcome State Fault Refusal :=
  .next <| onlyIf (s.sessionDue slot.val [.idle, .entering])
    (fun t => commitSession slot.val (t.session slot.val).endEntry t) s

/-- ANSWER_TIMEOUT_EXPIRY (R80). -/
def execAnswerTimeoutExpiry (slot : Fin 128) (s : State) : Host.Outcome State Fault Refusal :=
  .next <| onlyIf (s.sessionDue slot.val [.waiting])
    (fun t => commitSession slot.val ((t.session slot.val).noAnswer t.holdTime) t) s

/-- HOLD_TIME_EXPIRY (R72). -/
def execHoldTimeExpiry (slot : Fin 128) (s : State) : Host.Outcome State Fault Refusal :=
  .next <| onlyIf (s.sessionDue slot.val [.showing, .refused, .fallback, .invalid])
    (fun t => commitSession slot.val (t.session slot.val).endHold t) s

end Sys2Proof.Machine
end

