-- ==== Sys2Proof/Machine/Strings.lean ====
section
/-! DEFINITION. The String Controllers (files 08 and 09): string states, sweeps, urgent lists, telegrams,
replies and panel health, and the commands of the strings. -/

namespace Sys2Proof.Machine

/-- A change made to a string record. -/
def alterString (k : Nat) (f : PanelString → PanelString) (s : State) : State :=
  s.setString k (f (s.string k))

/-- A change made to a panel record. -/
def alterPanel (p : Nat) (f : Panel → Panel) (s : State) : State := s.setPanel p (f (s.panel p))

/-! ## Telegrams (R155, R156) -/

/-- Command codes of a telegram (formats of file 09). -/
def Command.code : Command → Nat
  | .show => 1 | .poll => 2 | .enumerate => 3 | .wake => 4 | .sleep => 5 | .sync => 6

/-- The characters of a telegram: the marker stands in the header alone (R155). -/
def telegram (address : Nat) (command : Command) (ack : Nat) (payload : List Byte) :
    List (BitVec 9) :=
  let header : Byte := BitVec.ofNat 8 address
  let rest := [BitVec.ofNat 8 command.code, BitVec.ofNat 8 ack] ++ leBytes 2 payload.length ++ payload
  (header.setWidth 9 ||| 0x100) :: (rest ++ [crc8 (header :: rest)]).map (·.setWidth 9)

/-- The bytes of an item as a SHOW carries them: those of ROM or of its VALID slot (R156). -/
def State.itemBytes (s : State) (item : Nat) : List Byte :=
  if fetched item then
    match (tlist s.cst.slots).find? fun x => x.state == .valid && x.item == some item with
    | some x => x.bytes
    | none => []
  else (List.range 240).map (Config.builtinByte (item - 4088))

/-- The field block of a plan with its banner slot (R11). -/
def Plan.block (p : Plan) : List Byte := padTo 10 p.fields ++ leBytes 2 (p.banner.getD 0xFFFF)

/-- A floor code of an overview as a floor (R63). -/
def codeFloor (code : Byte) : Option Nat := if code = 0xFF then none else some code.toNat

/-- The label addition of a LOBBY_OVERVIEW display (R63, R156; log 18). -/
def State.labelAddition (s : State) (b : Binding) (p : Plan) : List Byte :=
  match b with
  | .lobbyOverview cars =>
    ((List.range 8).flatMap fun i =>
      match cars[i]? with
      | some car => s.carLabel car
      | none => [0x20, 0x20])
    ++ (List.range 8).flatMap fun i => s.floorLabel (codeFloor (byteAt p.fields i))
  | .unused | .carPosition .. | .hallLantern .. | .keypad .. | .free => []

/-- The payload of a SHOW of display `d`'s plan (R156). -/
def State.showPayload (s : State) (d : Nat) : List Byte :=
  let p := (s.comp d).plan
  let item := s.itemBytes p.item
  leBytes 2 p.item ++ [BitVec.ofNat 8 p.timer, BitVec.ofNat 8 p.brightness] ++ p.block
    ++ [BitVec.ofNat 8 item.length] ++ item ++ s.labelAddition (s.display d).binding p

/-- The payload of a SYNC: the phases as they stand (R156). -/
def State.syncPayload (s : State) : List Byte :=
  leBytes 2 (((List.range 16).map fun k => if (s.channel k).phase then 2 ^ k else 0).sum)

/-- A broadcast begins on the string's line (R155). -/
def beginBroadcast (k : Nat) (command : Command) (payload : List Byte) (s : State) : State :=
  alterString k (fun x => { x with line := .sending command (telegram 0 command 0 payload) none }) s

/-! ## String states (R139, R140, R143, R145) -/

/-- A change of string state: STRING_STATE is offered and the mirror marked (R139). -/
def enterString (k : Nat) (new : StringState) (s : State) : State :=
  let x := s.string k
  markDirty (.string k) <|
    offerClass .stringState k
      [BitVec.ofNat 8 x.state.code, BitVec.ofNat 8 new.code, BitVec.ofNat 8 x.faults] <|
    s.setString k { x with state := new }

/-- The mirrored fields of a panel record (R167). -/
def Panel.mirrorFields (p : Panel) : Health × Nat × Option Nat := (p.health, p.misses, p.light)

/-- A panel's mirror is marked when a mirrored field has changed since `old` (R167). -/
def markPanel (p : Nat) (old : Panel) (s : State) : State :=
  onlyIf (old.mirrorFields != (s.panel p).mirrorFields) (markDirty (.panel p)) s

/-- A panel's report to the DRQ, for the display that holds it (R81, R154, R165, R166). -/
def reportPanel (k address : Nat) (offline : Bool) (s : State) : State :=
  match s.holder k address with
  | some d => reportOffline d offline s
  | none => s

/-- A panel is set UNSEEN (R154). -/
def setUnseen (k address : Nat) (s : State) : State :=
  let p := panelIndex k address
  let old := s.panel p
  markPanel p old <|
    onlyIf (old.health == .offline) (reportPanel k address false) <| s.setPanel p Panel.initial

/-- Every panel of a string's schedule is set UNSEEN (R140, R144). -/
def unseeSchedule (k : Nat) (s : State) : State := each (s.string k).schedule (setUnseen k) s

/-- A string leaves OFF, or FAULT at the end of its hold (R140). -/
def powerUp (k : Nat) (s : State) : State :=
  unseeSchedule k <|
    enterString k .powering <|
    alterString k
      (fun x => { x with rate := x.settings.rateCode, driver := true, supply := true,
                         settle := some x.settings.settleTime, hold := none }) s

/-- Entry to OFF; with an effective run of 1 the string leaves it again at once (R139, R143). -/
def enterOff (k : Nat) (s : State) : State :=
  let t := enterString k .off (alterString k (fun x => { x with faults := 0 }) s)
  onlyIf (t.effectiveRun k) (powerUp k) t

/-- Entry to PARKING: the SLEEP broadcast begins (R143). -/
def enterParking (k : Nat) (s : State) : State :=
  beginBroadcast k .sleep [] <|
    enterString k .parking <|
    alterString k
      (fun x => { x with settle := none, wake := none, sweepTimer := none, parkOwed := false }) s

/-! ## Sweeps (R146 to R149) -/

/-- The slots of a new sweep: every address, or on a sweep that is no probe sweep those not OFFLINE
(R146). -/
def State.sweepSlots (s : State) (k : Nat) (probe : Bool) : List SweepSlot :=
  ((s.string k).schedule.filter fun a =>
    probe || (s.panel (panelIndex k a)).health != .offline).map fun a =>
      { address := a, status := .ready }

/-- The end of a sweep (R147). -/
def closeSweep (k : Nat) (s : State) : State :=
  markDirty (.string k)
    (alterString k (fun x => { x with sweep := none, completed := x.completed + 1 }) s)

/-- The start of a sweep; one without slots ends at its start (R146, R147). The sweep number wraps modulo 2^32, and
sweep 0 is a probe sweep (log 57). -/
def startSweep (k : Nat) (s : State) : State :=
  let x := s.string k
  let number := x.sweepNumber + 1
  let probe := number.toNat % x.settings.probeInterval == 0
  let slots := s.sweepSlots k probe
  let t := s.setString k
    { x with sweepNumber := number, sweepTimer := some x.settings.sweepInterval, nextOwed := false,
             sweep := some { slots := slots, probe := probe, halt := x.settings.halt } }
  if slots.isEmpty then closeSweep k t else t

/-- The end of the sweep in progress, and the start of the one an overrun owes (R147). -/
def endSweep (k : Nat) (s : State) : State :=
  let t := closeSweep k s
  onlyIf ((t.string k).state == .running && (t.string k).nextOwed) (startSweep k) t

/-- The enumeration pass completes (R141). -/
def completeEnumeration (k : Nat) (s : State) : State :=
  startSweep k <|
    enterString k .running <|
    alterString k (fun x => { x with faults := 0, sweepNumber := 0, syncPending := true }) s

/-- The lowest address of a string's schedule above the last one the pass has visited (R141). -/
def PanelString.nextOfPass (x : PanelString) : Option Nat := x.schedule.find? fun a => x.visited < a

/-- The lowest READY slot (R148). -/
def Sweep.nextReady (w : Sweep) : Option Nat :=
  (w.slots.find? fun l => l.status == .ready).map (·.address)

/-- Some slot is READY or ACTIVE (R147). -/
def Sweep.going (w : Sweep) : Bool := w.slots.any fun l => l.status == .ready || l.status == .active

/-- READY slots that stand first and whose panels are OFFLINE become SKIPPED (R148). -/
def skipOffline (offline : Nat → Bool) : List SweepSlot → List SweepSlot
  | [] => []
  | l :: rest =>
    if l.status == .ready then
      if offline l.address then { l with status := .skipped } :: skipOffline offline rest
      else l :: rest
    else l :: skipOffline offline rest

/-- A panel is OFFLINE. -/
def State.panelOffline (s : State) (k a : Nat) : Bool :=
  (s.panel (panelIndex k a)).health == .offline

/-- The line is free and the next slot is what it would take (R148). -/
def PanelString.takesSlots (x : PanelString) : Bool :=
  x.line == .free &&
    (x.state == .draining || (x.state == .running && !x.syncPending && x.urgent.isEmpty))

/-- Slots passed over without a transaction (R148). -/
def skipSlots (k : Nat) (s : State) : State :=
  let x := s.string k
  match x.sweep with
  | some w =>
    if x.takesSlots && !w.probe then
      s.setString k { x with sweep := some { w with slots := skipOffline (s.panelOffline k) w.slots } }
    else s
  | none => s

/-- A sweep of which no slot is READY or ACTIVE ends (R147). -/
def endIfDone (k : Nat) (s : State) : State :=
  match (s.string k).sweep with
  | some w => if w.going then s else endSweep k s
  | none => s

/-- What a string does of itself once its line, its slots or its schedule have changed: slots are passed
over, an ended sweep is counted, a drained string parks, and an enumeration pass completes or is given
up (R141, R143, R147). DESIGN CHOICE, log 58: R143 lets a transaction in flight finish at entry to DRAINING and says
nothing of a SYNC still being sent with no sweep in progress; here the string stays DRAINING until TELEGRAM_SENT
ends the SYNC, and enters PARKING at that free line. -/
def settleString (k : Nat) (s : State) : State :=
  let t := endIfDone k (skipSlots k s)
  let x := t.string k
  if x.line == .free then
    match x.state with
    | .draining => if x.sweep.isNone then enterParking k t else t
    | .enumerating =>
      if x.parkOwed then enterParking k t
      else if x.nextOfPass.isNone then completeEnumeration k t
      else t
    | .off | .powering | .waking | .running | .parking | .fault | .faultLocked => t
  else t

/-! ## The effective run (R138, R139, R143) -/

/-- The effective run of a string becomes 1 (R139). -/
def raiseRun (k : Nat) (s : State) : State := onlyIf ((s.string k).state == .off) (powerUp k) s

/-- The effective run of a string becomes 0 (R139, R143, R145; logs 20, 58). -/
def lowerRun (k : Nat) (s : State) : State :=
  let x := s.string k
  match x.state with
  | .powering => enterParking k s
  | .waking | .enumerating =>
    if x.line == .free then enterParking k s else s.setString k { x with parkOwed := true }
  | .running =>
    settleString k <|
      enterString k .draining <|
      s.setString k { x with urgent := [], syncPending := false, nextOwed := false }
  | .faultLocked => enterOff k s
  | .off | .draining | .parking | .fault => s

/-- The effective run of a string has moved from `was` to what it is now. -/
def runChanged (k : Nat) (was : Bool) (s : State) : State :=
  match was, s.effectiveRun k with
  | false, true => raiseRun k s
  | true, false => lowerRun k s
  | _, _ => s

/-! ## The schedule and the urgent list (R146, R150) -/

/-- An address enters a schedule, as an UNSEEN panel (R146). -/
def enterSchedule (k a : Nat) (s : State) : State :=
  setUnseen k a <|
    alterString k
      (fun x => { x with schedule := x.schedule.filter (· < a) ++ [a] ++ x.schedule.filter (a < ·) }) s

/-- The visit in flight has met a panel that left the schedule (R152). -/
def Line.leave (a : Nat) : Line → Line
  | .free => .free
  | .sending c chars visit =>
    .sending c chars (visit.map fun v => if v.address == a then { v with stayed := false } else v)
  | .window v got timeout remaining =>
    .window (if v.address == a then { v with stayed := false } else v) got timeout remaining

/-- The slots of a sweep without the untaken slot of an address (R146). -/
def Sweep.leave (a : Nat) (w : Sweep) : Sweep :=
  { w with slots := w.slots.filter fun l => !(l.address == a && l.status == .ready) }

/-- An address leaves a schedule (R146, R152); the string is settled once the step's changes of schedule are
done. -/
def leaveSchedule (k a : Nat) (s : State) : State :=
  alterString k
    (fun x => { x with schedule := x.schedule.filter (· != a), urgent := x.urgent.filter (· != a),
                       sweep := x.sweep.map (Sweep.leave a), line := x.line.leave a }) s

/-- A mark for a display's panel is taken onto its string's urgent list (R150). -/
def State.markTaken (s : State) (d : Nat) : Bool :=
  let r := s.display d
  let x := s.string r.string
  x.state == .running && x.schedule.contains r.address && !s.panelOffline r.string r.address
    && !x.urgent.contains r.address && decide (x.urgent.length < 8)

/-- A display is marked urgent (R150). -/
def markUrgent (d : Nat) (s : State) : State :=
  onlyIf (s.markTaken d)
    (alterString (s.display d).string fun x =>
      { x with urgent := x.urgent ++ [(s.display d).address] }) s

/-- SYNC-pending set on a string that is RUNNING (R151). -/
def owSync (k : Nat) (s : State) : State :=
  onlyIf ((s.string k).state == .running) (alterString k fun x => { x with syncPending := true }) s

/-- A phase has changed: SYNC-pending is set on every RUNNING string (R151, R174). -/
def syncAll (s : State) : State := each (List.range 16) owSync s

/-! ## Visits (R148, R159) -/

/-- What a string's free line may visit next, and of which origin (R141, R148). -/
def State.nextVisit (s : State) (k : Nat) : Option (Nat × Origin) :=
  let x := s.string k
  let slot := (x.sweep.bind Sweep.nextReady).map fun a => (a, Origin.slot)
  if x.line != .free then none
  else match x.state with
    | .enumerating => if x.parkOwed then none else x.nextOfPass.map fun a => (a, Origin.pass)
    | .running =>
      if x.syncPending then none
      else match x.urgent with
        | a :: _ => some (a, Origin.urgent)
        | [] => slot
    | .draining => slot
    | .off | .powering | .waking | .parking | .fault | .faultLocked => none

/-- The plan names an item that is not held (R159). -/
def State.itemMissing (s : State) (d : Nat) : Bool :=
  fetched (s.comp d).plan.item && !s.holdsValid (s.comp d).plan.item

/-- The command of a visit, by the first case of R159. -/
def State.visitCommand (s : State) (k a d : Nat) : Command :=
  let p := s.panel (panelIndex k a)
  let c := s.comp d
  if (s.string k).state == .enumerating then .enumerate
  else if p.health == .unseen || p.health == .offline then .enumerate
  else if p.shown == some c.stamp then .poll
  else if c.plan.pending then .poll
  else if s.itemMissing d then .poll
  else .show

/-- The slot of a sweep whose transaction begins (R148). -/
def Sweep.activate (a : Nat) (w : Sweep) : Sweep :=
  { w with slots := w.slots.map fun l =>
      if l.address == a && l.status == .ready then { l with status := .active } else l }

/-- The string record as its visit begins (R141, R148, R150). -/
def PanelString.visiting (a : Nat) (o : Origin) (x : PanelString) : PanelString :=
  match o with
  | .pass => { x with visited := a }
  | .urgent => { x with urgent := x.urgent.filter (· != a) }
  | .slot => { x with sweep := x.sweep.map (Sweep.activate a) }

/-- A visit begins: the telegram's characters, the sent stamp and the item bytes are captured (R155, R159,
R160). -/
def beginVisit (k a d : Nat) (o : Origin) (command : Command) (s : State) : State :=
  let payload := if command == .show then s.showPayload d else []
  let chars := telegram a command (s.panel (panelIndex k a)).keyAck payload
  let visit : Visit :=
    { address := a, command := command, origin := o, stamp := (s.comp d).stamp, stayed := true }
  alterString k (fun x => { x.visiting a o with line := .sending command chars (some visit) }) s

/-- A POLL made for want of the plan's item asks for recomposition (R17, R159). -/
def State.pollAsks (s : State) (k a d : Nat) : Bool :=
  let p := s.panel (panelIndex k a)
  p.shown != some (s.comp d).stamp && !(s.comp d).plan.pending && s.itemMissing d

/-- The next visit of a string's free line, when its command is the one given. -/
def visitWith (command : Command) (k : Nat) (s : State) : State :=
  match s.nextVisit k with
  | none => s
  | some (a, o) =>
    match s.holder k a with
    | none => s
    | some d =>
      if s.visitCommand k a d == command then
        onlyIf (command == .poll && s.pollAsks k a d) (askRecompose .plain d)
          (beginVisit k a d o command s)
      else s

/-! ## Outcomes (R152, R157 to R166) -/

/-- The step of a light level (R19). -/
def lightStep (level : Nat) : Nat := max 1 (level / 16)

/-- A light level report (R19, R163). -/
def reportLight (d level : Nat) (s : State) : State :=
  let b := (s.comp d).plan.brightness
  onlyIf ((s.display d).brightness == 0
      && decide (2 ≤ (lightStep level - b) + (b - lightStep level)))
    (askRecompose .plain d) s

/-- A panel returns from OFFLINE (R166). -/
def panelBack (k a light : Nat) (s : State) : State :=
  owSync k <|
    offerClass .panelBack (panelIndex k a)
      [BitVec.ofNat 8 k, BitVec.ofNat 8 a, BitVec.ofNat 8 light] <|
    reportPanel k a false s

/-- The panel record after a GOOD reply, but for its light level and keys (R161). -/
def Panel.good (v : Visit) (p : Panel) : Panel :=
  { p with
    health := .present, misses := 0,
    shown := if p.health == .unseen || p.health == .offline then none
             else if v.command == .show then some v.stamp else p.shown }

/-- The keys of a reply are taken (R162). -/
def takeKeys (k a d : Nat) (r : Reply) (s : State) : State :=
  let p := panelIndex k a
  if r.sequence = 0 || r.sequence = (s.panel p).keyAck then s
  else
    let t := alterPanel p (fun x => { x with keyAck := r.sequence }) s
    match (s.display d).binding with
    | .keypad slot _ => deliverKeys slot r.keys t
    | .unused | .carPosition .. | .hallLantern .. | .lobbyOverview .. | .free => t

/-- A GOOD reply that R152 lets stand (R161, R163, R166). -/
def goodReply (k d : Nat) (v : Visit) (r : Reply) (s : State) : State :=
  let p := panelIndex k v.address
  let old := s.panel p
  markPanel p old <|
    takeKeys k v.address d r <|
    reportLight d r.light <|
    alterPanel p (fun x => { x with light := some r.light }) <|
    onlyIf (old.health == .offline) (panelBack k v.address r.light) <|
    onlyIf (old.health == .unseen) (owSync k) <|
    alterPanel p (Panel.good v) s

/-- The panel record after a failure (R164). -/
def Panel.failed (threshold : Nat) (p : Panel) : Panel :=
  match p.health with
  | .unseen => { p with misses := threshold, health := .offline }
  | .offline => { p with misses := min 7 (p.misses + 1) }
  | .present | .degraded =>
    let n := min 7 (p.misses + 1)
    { p with misses := n, health := if n < threshold then .degraded else .offline }

/-- Entry to OFFLINE (R165). -/
def panelLost (k a : Nat) (before : Health) (s : State) : State :=
  offerClass .panelOffline (panelIndex k a)
    [BitVec.ofNat 8 k, BitVec.ofNat 8 a, BitVec.ofNat 8 before.code,
     BitVec.ofNat 8 (s.panel (panelIndex k a)).misses] <|
    reportPanel k a true <|
    alterString k (fun x => { x with urgent := x.urgent.filter (· != a) }) s

/-- A failure of a panel (R164, R165). -/
def panelFails (k a : Nat) (s : State) : State :=
  let p := panelIndex k a
  let old := s.panel p
  let t := alterPanel p (Panel.failed (s.string k).settings.threshold) s
  markPanel p old <|
    onlyIf (old.health != .offline && (t.panel p).health == .offline)
      (panelLost k a old.health) t

/-- What a transaction ends in (R157). -/
inductive VisitOutcome where
  | good (reply : Reply)
  | noReply | badReply
  deriving DecidableEq, Repr

def VisitOutcome.status : VisitOutcome → SlotStatus
  | .good _ => .good
  | .noReply => .noReply
  | .badReply => .badReply

/-- A type refused by the Display Directory (R7): the record, its session, its lantern and its receipt;
the panel leaves the schedule. -/
def refuseType (d : Nat) (s : State) : State :=
  let r := s.display d
  let t := s.setDisplay d { r with status := .rejectedType }
  let u := match r.binding with
    | .keypad slot _ => unbindSession r slot t
    | .hallLantern .. => t.setLantern d none
    | .unused | .carPosition .. | .lobbyOverview .. | .free => t
  dropComposition d <|
    leaveSchedule r.string r.address <|
    markDirty (.receipt d) <|
    u.withMir { u.mir with
      receipts := tset u.mir.receipts d { u.receipt d with verdict := .rejected, reason := .type } }

/-- PANEL_TYPE (R142). -/
def offerPanelType (k a d type : Nat) (s : State) : State :=
  offerClass .panelType (panelIndex k a)
    ([BitVec.ofNat 8 type, BitVec.ofNat 8 (s.display d).binding.kind] ++ leBytes 2 d) s

/-- A GOOD reply: for ENUMERATE the type check of R142 comes first. -/
def takeReply (k d : Nat) (v : Visit) (r : Reply) (s : State) : State :=
  if v.command == .enumerate && r.type != (s.display d).binding.panelType then
    offerPanelType k v.address d r.type (refuseType d s)
  else goodReply k d v r s

/-- The status of the active slot of an address set (R148). -/
def Sweep.setStatus (a : Nat) (x : SlotStatus) (w : Sweep) : Sweep :=
  { w with slots := w.slots.map fun l =>
      if l.address == a && l.status == .active then { l with status := x } else l }

/-- The active slot of an address removed without a status (R152). -/
def Sweep.dropActive (a : Nat) (w : Sweep) : Sweep :=
  { w with slots := w.slots.filter fun l => !(l.address == a && l.status == .active) }

/-- HALT: every slot still READY becomes SKIPPED (R149). -/
def Sweep.haltNow (w : Sweep) : Sweep :=
  { w with slots := w.slots.map fun l => if l.status == .ready then { l with status := .skipped } else l }

/-- A sweep slot takes its outcome, and the failure policy acts (R148, R149). -/
def Sweep.slotDone (a : Nat) (o : VisitOutcome) (w : Sweep) : Sweep :=
  let x := w.setStatus a o.status
  match o with
  | .good _ => x
  | .noReply | .badReply => if w.halt then x.haltNow else x

/-- The health, keys, light level and type of an outcome that R152 lets stand. -/
def takeHealth (k : Nat) (v : Visit) (o : VisitOutcome) (s : State) : State :=
  match o with
  | .noReply | .badReply => panelFails k v.address s
  | .good r =>
    match s.holder k v.address with
    | some d => takeReply k d v r s
    | none => s

/-- The outcome of a transaction: taken, or discarded whole where the panel has left the schedule since its
start (R148, R152). -/
def takeOutcome (k : Nat) (v : Visit) (o : VisitOutcome) (s : State) : State :=
  let s := alterString k (fun x => { x with line := .free }) s
  settleString k <|
    if v.stayed then
      onlyIf (v.origin == .slot)
        (alterString k fun x => { x with sweep := x.sweep.map (Sweep.slotDone v.address o) })
        (takeHealth k v o s)
    else
      onlyIf (v.origin == .slot)
        (alterString k fun x => { x with sweep := x.sweep.map (Sweep.dropActive v.address) }) s

/-- One character arrives on a string's line (R157). -/
def receiveReply (k : Nat) (c : LineChar) (s : State) : State :=
  match (s.string k).line with
  | .window v got timeout remaining =>
    if c.marker || !c.stop then takeOutcome k v .badReply s
    else
      let all := got ++ [c.data]
      if all.length < 10 then
        let left := if got.isEmpty then timeout else remaining
        alterString k (fun x => { x with line := .window v all timeout left }) s
      else
        match replyFields v.address v.command all with
        | some r => takeOutcome k v (.good r) s
        | none => takeOutcome k v .badReply s
  | .free | .sending .. => s

/-! ## Supply faults (R144, R145) -/

/-- A supply fault (R144, R145). With an effective run of 0 it makes FAULT whatever the count, in WAKING and ENUMERATING
too, which R145 does not name (log 56). -/
def supplyFails (k : Nat) (s : State) : State :=
  let x := s.string k
  let faults := min 4 (x.faults + 1)
  let locked := s.effectiveRun k && faults == 4
  let cut : PanelString :=
    { x with supply := false, driver := false, line := .free, sweep := none, urgent := [],
             syncPending := false, settle := none, wake := none, sweepTimer := none,
             nextOwed := false, parkOwed := false }
  let t := unseeSchedule k (s.setString k cut)
  let u := alterString k
    (fun y => { y with faults := faults, hold := if locked then none else some 5000 }) t
  enterString k (if locked then .faultLocked else .fault) <|
    setCause .string <|
    offerClass .stringFault k [BitVec.ofNat 8 x.state.code, BitVec.ofNat 8 faults] u

/-! ## The commands -/

/-- SUPPLY_FAULT: an asserted sample while the supply is on (R144). -/
def execSupplyFault (string : Fin 16) (s : State) : Host.Outcome State Fault Refusal :=
  .next <| onlyIf (s.string string.val).supply (supplyFails string.val) s

/-- SETTLE_EXPIRY (R140). -/
def execSettleExpiry (string : Fin 16) (s : State) : Host.Outcome State Fault Refusal :=
  let x := s.string string.val
  .next <| onlyIf (x.state == .powering && timerDue x.settle)
    (fun t => beginBroadcast string.val .wake [] <|
      enterString string.val .waking <|
      alterString string.val
        (fun y => { y with settle := none, wakeTaken := y.settings.wakeTime }) t) s

/-- The broadcast that a string's line carries. -/
def PanelString.sends (x : PanelString) (c : Command) : Bool :=
  match x.line with
  | .sending d _ none => c == d
  | .sending _ _ (some _) | .free | .window .. => false

/-- WAKE_SENT (R140, R143). -/
def execWakeSent (string : Fin 16) (s : State) : Host.Outcome State Fault Refusal :=
  let x := s.string string.val
  .next <| onlyIf (x.state == .waking && x.sends .wake)
    (fun t =>
      if x.parkOwed then
        enterParking string.val (alterString string.val (fun y => { y with line := .free }) t)
      else
        alterString string.val (fun y => { y with line := .free, wake := some y.wakeTaken }) t) s

/-- WAKE_TIME_EXPIRY (R140, R141). -/
def execWakeTimeExpiry (string : Fin 16) (s : State) : Host.Outcome State Fault Refusal :=
  let x := s.string string.val
  .next <| onlyIf (x.state == .waking && timerDue x.wake)
    (fun t => settleString string.val <|
      enterString string.val .enumerating <|
      alterString string.val (fun y => { y with wake := none, visited := 0 }) t) s

/-- SLEEP_SENT (R143). -/
def execSleepSent (string : Fin 16) (s : State) : Host.Outcome State Fault Refusal :=
  let x := s.string string.val
  .next <| onlyIf (x.state == .parking && x.sends .sleep)
    (fun t => enterOff string.val <|
      alterString string.val (fun y => { y with supply := false, driver := false, line := .free }) t) s

/-- SYNC (R148, R151). -/
def execSync (string : Fin 16) (s : State) : Host.Outcome State Fault Refusal :=
  let x := s.string string.val
  .next <| onlyIf (x.state == .running && x.syncPending && x.line == .free)
    (fun t => beginBroadcast string.val .sync t.syncPayload <|
      alterString string.val (fun y => { y with syncPending := false }) t) s

/-- SHOW (R159). -/
def execShowPlan (string : Fin 16) (s : State) : Host.Outcome State Fault Refusal :=
  .next (visitWith .show string.val s)

/-- POLL (R17, R159). -/
def execPoll (string : Fin 16) (s : State) : Host.Outcome State Fault Refusal :=
  .next (visitWith .poll string.val s)

/-- ENUMERATE (R141, R159). -/
def execEnumerate (string : Fin 16) (s : State) : Host.Outcome State Fault Refusal :=
  .next (visitWith .enumerate string.val s)

/-- The end of a telegram that is neither WAKE nor SLEEP: a visit's reply window opens, a SYNC frees the
line (R157). -/
def telegramEnds (k : Nat) (s : State) : State :=
  let x := s.string k
  match x.line with
  | .sending _ _ (some v) =>
    s.setString k { x with line := .window v [] x.settings.replyTimeout x.settings.replyTimeout }
  | .sending c _ none => if c == .sync then settleString k (s.setString k { x with line := .free }) else s
  | .free | .window .. => s

/-- TELEGRAM_SENT (R157). -/
def execTelegramSent (string : Fin 16) (s : State) : Host.Outcome State Fault Refusal :=
  .next (telegramEnds string.val s)

/-- PANEL_REPLY: the characters arrive one after another (R157, R158). -/
def execPanelReply (string : Fin 16) (chars : List LineChar) (s : State) :
    Host.Outcome State Fault Refusal := .next (each chars (receiveReply string.val) s)

/-- The reply timeout has expired, counted from the window's opening or the first character (R157). -/
def replyExpires (k : Nat) (s : State) : State :=
  match (s.string k).line with
  | .window v got _ 0 => takeOutcome k v (if got.isEmpty then .noReply else .badReply) s
  | .window _ _ _ (_ + 1) | .free | .sending .. => s

/-- REPLY_TIMEOUT (R157). -/
def execReplyTimeout (string : Fin 16) (s : State) : Host.Outcome State Fault Refusal :=
  .next (replyExpires string.val s)

/-- SWEEP_INTERVAL_EXPIRY (R147). -/
def execSweepIntervalExpiry (string : Fin 16) (s : State) : Host.Outcome State Fault Refusal :=
  let x := s.string string.val
  .next <| onlyIf (timerDue x.sweepTimer)
    (fun t =>
      if x.state == .running then
        if x.sweep.isSome then
          markDirty (.string string.val) <|
            t.setString string.val
              { x with overruns := x.overruns + 1, nextOwed := true, sweepTimer := none }
        else startSweep string.val t
      else t.setString string.val { x with sweepTimer := none }) s

/-- FAULT_HOLD_EXPIRY (R145). -/
def execFaultHoldExpiry (string : Fin 16) (s : State) : Host.Outcome State Fault Refusal :=
  let x := s.string string.val
  .next <| onlyIf (x.state == .fault && timerDue x.hold)
    (fun t =>
      if t.effectiveRun string.val then powerUp string.val t
      else enterOff string.val (alterString string.val (fun y => { y with hold := none }) t)) s

end Sys2Proof.Machine
end

