-- ==== Sys2Proof/Machine/Cadence.lean ====
section
/-! DEFINITION. The Cadence Timers (file 10) and their commands. In a cascaded pair the lower channel holds
the pair's count, and both channels hold its phase (log 22). -/

namespace Sys2Proof.Machine

/-- Channel `k` is the lower channel of a cascaded pair (R172). -/
def State.cascaded (s : State) (k : Nat) : Bool := k % 2 == 0 && (s.channel k).settings.cascade

/-- Channel `k` governs a timer: it is no upper channel of a cascaded pair (R172). -/
def State.governs (s : State) (k : Nat) : Bool :=
  k % 2 == 0 || !(s.channel (k - 1)).settings.cascade

/-- The reload value that governs channel `k` (R172). -/
def State.reloadOf (s : State) (k : Nat) : Nat :=
  (s.channel k).settings.reload
    + if s.cascaded k then 256 * (s.channel (k + 1)).settings.reload else 0

/-- The compare value that governs channel `k` (R172). -/
def State.compareOf (s : State) (k : Nat) : Nat :=
  (s.channel k).settings.compare
    + if s.cascaded k then 256 * (s.channel (k + 1)).settings.compare else 0

/-- The phase of the timer that channel `k` governs is set, in both channels of a pair; a change is
reported (R172, R174). -/
def setPhase (k : Nat) (phase : Bool) (s : State) : State :=
  let old := (s.channel k).phase
  let t := s.setChannel k { s.channel k with phase := phase }
  let u := onlyIf (s.cascaded k)
    (fun u => u.setChannel (k + 1) { u.channel (k + 1) with phase := phase }) t
  onlyIf (old != phase) syncAll u

/-- The channel counts at this tick: it runs, or a START is taken (R170). -/
def Channel.counts (x : Channel) : Bool := x.running || x.pending == .start

/-- The tick underflows (R169). -/
def Channel.underflows (x : Channel) : Bool := x.counts && x.count == 0

/-- The phase after a tick that counts (R169). -/
def Channel.phaseAfter (compare : Nat) (x : Channel) : Bool :=
  if x.count = 0 then false else if x.count - 1 = compare then true else x.phase

/-- One tick of the timer that channel `k` governs (R169, R170). -/
def tickChannel (k : Nat) (s : State) : State :=
  let x := s.channel k
  let t := s.setChannel k
    { x with owed := x.owed - 1, running := x.counts && x.pending != .stop, pending := .unset,
             count := if x.counts then (if x.count = 0 then s.reloadOf k else x.count - 1)
                      else x.count }
  if x.counts then setPhase k (x.phaseAfter (s.compareOf k)) t else t

/-! ## Settings (R170 to R173) -/

/-- The pending change a new run setting gives (R170). -/
def Channel.pendingAfter (run : Bool) (x : Channel) : PendingRun :=
  if run = x.settings.run then x.pending
  else if run = x.running then .unset
  else if run then .start else .stop

/-- The settings of both channels of pair `j`, in place. -/
def putPair (j : Nat) (lower upper : Channel) (s : State) : State :=
  (s.setChannel (2 * j) lower).setChannel (2 * j + 1) upper

/-- The 16-bit or the own reload value of a lower channel's new settings (R172). -/
def pairReload (lower upper : ChannelSettings) : Nat :=
  lower.reload + if lower.cascade then 256 * upper.reload else 0

/-- A governing channel restarted: loaded, at phase 0, with a START pending if it is to run (R172,
R173). -/
def Channel.restarted (set : ChannelSettings) (reload : Nat) : Channel :=
  { settings := set, running := false, pending := if set.run then .start else .unset, count := reload,
    phase := false, owed := 0 }

/-- A channel that governs nothing takes its settings and stands (R172). -/
def Channel.idleUpper (set : ChannelSettings) (x : Channel) : Channel :=
  { x with settings := set, running := false, pending := .unset, phase := false, owed := 0 }

/-- Pair `j` with new settings, restarted (R172, R173). -/
def restartPair (j : Nat) (lower upper : ChannelSettings) (s : State) : State :=
  putPair j (Channel.restarted lower (pairReload lower upper))
    (if lower.cascade then (s.channel (2 * j + 1)).idleUpper upper
     else Channel.restarted upper upper.reload) s

/-- A governing channel's new settings but for the cascade bit; a changed preset serial presets it (R170,
R171, R173). -/
def Channel.takes (set : ChannelSettings) (reload : Nat) (x : Channel) : Channel :=
  let preset := set.serial != x.settings.serial
  { settings := set, running := x.running, pending := x.pendingAfter set.run,
    count := if preset then reload else x.count, phase := x.phase && !preset,
    owed := if set.source == x.settings.source then x.owed else 0 }

/-- Pair `j` with new settings and its cascade bit kept. -/
def resetPair (j : Nat) (lower upper : ChannelSettings) (s : State) : State :=
  let l := (s.channel (2 * j)).takes lower (pairReload lower upper)
  let u := s.channel (2 * j + 1)
  putPair j l
    (if lower.cascade then { u with settings := upper, phase := l.phase }
     else u.takes upper upper.reload) s

/-- The phases of pair `j`. -/
def State.pairPhases (s : State) (j : Nat) : Bool × Bool :=
  ((s.channel (2 * j)).phase, (s.channel (2 * j + 1)).phase)

/-- Pair `j` compared with the settings of a take in RUNNING: unchanged settings touch nothing, and a phase
change is reported (R172, R173, R174). -/
def changePair (set : Vector ChannelSettings 16) (j : Nat) (s : State) : State :=
  let lower := tget set (2 * j) ChannelSettings.initial
  let upper := tget set (2 * j + 1) ChannelSettings.initial
  let t :=
    if lower.cascade != (s.channel (2 * j)).settings.cascade then restartPair j lower upper s
    else resetPair j lower upper s
  onlyIf (t.pairPhases j != s.pairPhases j) syncAll t

/-- The timer settings of a take in RUNNING (R173). -/
def changeTimers (set : Vector ChannelSettings 16) (s : State) : State :=
  each (List.range 8) (changePair set) s

/-- The timer settings of step 5 of LOADING (R173). -/
def loadTimers (set : Vector ChannelSettings 16) (s : State) : State :=
  each (List.range 8)
    (fun j => restartPair j (tget set (2 * j) ChannelSettings.initial)
      (tget set (2 * j + 1) ChannelSettings.initial)) s

/-! ## Ticks of the sources (R168) -/

/-- Channels receive ticks in LOADING from step 5 on, in RUNNING and in STOPPING (R168). -/
def State.cadenceTicks (s : State) : Bool := s.routesOffers

/-- A tick source ticks at a device time (R168). -/
def TickSource.ticksAt (time : Word32) : TickSource → Bool
  | .ms1 => true
  | .ms10 => time.toNat % 10 == 0
  | .ms100 => time.toNat % 100 == 0

/-- A channel that neither runs nor is to start or stop: its ticks do nothing (R169, R170). -/
def Channel.stands (x : Channel) : Bool := !x.running && x.pending == .unset

/-- Every governing channel whose source ticks at the device time owes one tick; one that stands owes none
(log 22). -/
def oweTicks (s : State) : State :=
  if s.cadenceTicks then
    s.withCdt (tbuild 16 fun k =>
      let x := s.channel k
      if x.stands then { x with owed := 0 }
      else if s.governs k && x.settings.source.ticksAt s.dev.time then { x with owed := x.owed + 1 }
      else x)
  else s

/-! ## The commands -/

/-- A channel may take a tick: it governs a timer and a tick of its source is owed (log 22). -/
def State.tickDue (s : State) (k : Nat) : Bool :=
  s.cadenceTicks && s.governs k && decide (0 < (s.channel k).owed)

/-- CADENCE_TICK (R169, R170). -/
def execCadenceTick (channel : Fin 16) (s : State) : Host.Outcome State Fault Refusal :=
  .next <| onlyIf (s.tickDue channel.val) (tickChannel channel.val) s

/-- CADENCE_UNDERFLOW: a tick that meets a running count of 0 (R169). -/
def execCadenceUnderflow (channel : Fin 16) (s : State) : Host.Outcome State Fault Refusal :=
  .next <| onlyIf (s.tickDue channel.val && (s.channel channel.val).underflows)
    (tickChannel channel.val) s

end Sys2Proof.Machine
end

