-- ==== Sys2Proof/Machine/Overrides.lean ====
section
/-! DEFINITION. The Override Unit (file 06): override cells, fire-service lines, the fire map and the
effective override of each zone, and the commands of the fire lines. -/

namespace Sys2Proof.Machine

/-! ## The effective override (R115 to R117) -/

/-- The BOUND displays of a zone, ascending. -/
def State.displaysOfZone (s : State) (z : Nat) : List Nat :=
  twhere s.ddir fun r => r.status == .bound && r.zone == z

/-- Urgent marks for a zone's displays, made in RUNNING alone (R117). -/
def markZone (z : Nat) (s : State) : State :=
  if s.isRunning then each (s.displaysOfZone z) markUrgent s else s

/-- Recomposition of a zone's displays (R116). -/
def recomposeZone (z : Nat) (s : State) : State := askWhere .plain (fun r => r.zone == z) s

/-- The priority and item a zone's host part and line sources give (R115). -/
def State.formedOverride (s : State) (z : Nat) : Priority × Option Nat :=
  let x := s.zone z
  match x.sources with
  | l :: _ => (.evacuate, some (s.line l).resolved)
  | [] => (x.hostPriority, x.hostItem)

/-- The notices of a change of effective override from the priority `old`, in the order of R116. -/
def zoneNotices (z : Nat) (old new : Priority) (s : State) : State :=
  markZone z <|
    recomposeZone z <|
    onlyIf (old == .evacuate && new != .evacuate) (noticeEvac z false) <|
    onlyIf (old != .evacuate && new == .evacuate) (noticeEvac z true) s

/-- A zone's effective override is formed again; the one already held is no change (R115, R116). -/
def formZone (z : Nat) (s : State) : State :=
  let x := s.zone z
  let new := s.formedOverride z
  if new.1 == x.priority && new.2 == x.item then s
  else zoneNotices z x.priority new.1 (s.setZone z { x with priority := new.1, item := new.2 })

/-- The asserted lines whose mask names a zone, ascending. -/
def State.sourcesOf (s : State) (z : Nat) : List Nat :=
  twhere s.ovr.lines fun l => l.asserted && l.mapMask.getLsbD z

/-- A zone's line sources and then its effective override are formed again (R111, R112). -/
def formSources (z : Nat) (s : State) : State :=
  formZone z (s.setZone z { s.zone z with sources := s.sourcesOf z })

/-- Every zone is formed again, ascending (R109, R112). -/
def formAllZones (s : State) : State := each (List.range 32) formSources s

/-- The zones of a line's mask, ascending. -/
def FireLine.zones (l : FireLine) : List Nat := (List.range 32).filter fun z => l.mapMask.getLsbD z

/-! ## Override cells (R110) -/

/-- The host part a take sets: NOTICE and SERVICE are applied as NONE while presence is DETACHED (R110). -/
def State.hostPart (s : State) (p : Priority × Option Nat) : Priority × Option Nat :=
  if s.detached && (p.1 == .notice || p.1 == .service) then (.clear, none) else p

/-- A new take of override cell `n`, from byte 4 of the cell on: the state after it and its receipt's
verdict and reason (R110). -/
def takeOverride (n : Nat) (body : List Byte) (s : State) : State × Verdict × Reason :=
  match overrideFields body with
  | none => (s, .rejected, .range)
  | some p =>
    let h := s.hostPart p
    let t := s.setZone n { s.zone n with hostPriority := h.1, hostItem := h.2 }
    (onlyIf t.formsZones (formZone n) t, .accepted, .unset)

/-! ## The fire map (R112 to R114) -/

/-- A change made to a fire line. -/
def alterLine (k : Nat) (f : FireLine → FireLine) (s : State) : State := s.setLine k (f (s.line k))

/-- The map of a live configuration taken at step 5 of LOADING (R109, R112). -/
def loadFireMap (m : Vector (Word32 × Nat) 4) (s : State) : State :=
  formAllZones <|
    each (List.range 4)
      (fun k => alterLine k fun l =>
        let e := tget m k (0, 4093)
        { l with mapMask := e.1, mapItem := e.2, resolved := e.2, substituted := false }) s

/-- A map item that a lookup or pre-fill may ask for (R113). -/
def coveredItem (ws : Vector LockWindow 4) (item : Nat) : Bool :=
  fetched item && (coveringWindow ws item).isSome

/-- The resolved item and substituted flag of a map item, before any fill (R113, R114). -/
def resolveItem (ws : Vector LockWindow 4) (item : Nat) : Nat × Bool :=
  if !fetched item then (item, false)
  else if coveredItem ws item then (item, false)
  else (4093, true)

/-- The items that step 8 asks to pre-fill, each once (R113). -/
def State.preFillItems (s : State) : List Nat :=
  (((tlist s.ovr.lines).map (·.mapItem)).filter (coveredItem s.cst.windows)).eraseDups

/-- Step 8 begins: the first two cases of R113 resolve at once, and the pre-fills are asked for, in the order
of the lines F0 to F3 (log 49). -/
def beginPreFill (s : State) : State :=
  let t := each (List.range 4)
    (fun k => alterLine k fun l =>
      let r := resolveItem s.cst.windows l.mapItem
      { l with resolved := r.1, substituted := r.2 }) s
  each s.preFillItems (fun item u => (lookupItem item true u).1) t

/-- A pre-fill has faulted: its lines are substituted (R113). -/
def preFillFaults (item : Nat) (s : State) : State :=
  each (List.range 4)
    (fun k => alterLine k fun l =>
      if l.mapItem == item then { l with resolved := 4093, substituted := true } else l) s

/-- The substituted flags of the lines. -/
def State.substitutedFlags (s : State) : Vector Bool 4 := tmap (·.substituted) s.ovr.lines

/-- The fire substitution flags of the device record are rewritten (R113, R114). -/
def writeFlags (s : State) : State :=
  markDirty .device (s.withOvr { s.ovr with flags := s.substitutedFlags })

/-- Step 8 ends: the flags are copied, and the zones of the asserted lines are formed again (R113). -/
def endPreFill (s : State) : State :=
  each (List.range 32) (fun z t => onlyIf (!(t.zone z).sources.isEmpty) (formZone z) t) (writeFlags s)

/-- Line `k`'s entry resolved again at a live take in RUNNING, against the old and new windows (R114). Its covering
is unchanged where some window covers the item both before and after, or none does, whichever window it is: the
model's choice (log 55). -/
def resolveEntry (m : Vector (Word32 × Nat) 4) (old new : Vector LockWindow 4) (k : Nat)
    (s : State) : State :=
  let l := s.line k
  let e := tget m k (0, 4093)
  if e.2 == l.mapItem && (coveringWindow old e.2).isSome == (coveringWindow new e.2).isSome then
    s.setLine k { l with mapMask := e.1 }
  else
    let r := resolveItem new e.2
    let t := s.setLine k
      { l with mapMask := e.1, mapItem := e.2, resolved := r.1, substituted := r.2 }
    onlyIf (coveredItem new e.2 && !t.holdsValid e.2) (fun u => (lookupItem e.2 false u).1) t

/-- The map of a live configuration applied in RUNNING; the lines' entries are resolved, and ask for their
fills, from F0 to F3 (R112, R114; log 49). -/
def changeFireMap (m : Vector (Word32 × Nat) 4) (old new : Vector LockWindow 4) (s : State) : State :=
  let t := each (List.range 4) (resolveEntry m old new) s
  formAllZones (onlyIf (t.substitutedFlags != t.ovr.flags) writeFlags t)

/-! ## Presence (R118) -/

/-- Presence has become DETACHED: host NOTICE and SERVICE are lowered (R118). -/
def overridesDetached (s : State) : State :=
  each (twhere s.ovr.zones fun x => x.hostPriority == .notice || x.hostPriority == .service)
    (fun z t =>
      let u := t.setZone z { t.zone z with hostPriority := .clear, hostItem := none }
      onlyIf u.formsZones (formZone z) u) s

/-- Presence has become ATTACHED: the zones of NOTICE and SERVICE are recomposed and marked, in ascending
order (log 48), where zones are not held (R109, R118). -/
def overridesAttached (s : State) : State :=
  if s.formsZones then
    each (twhere s.ovr.zones fun x => x.priority == .notice || x.priority == .service)
      (fun z t => markZone z (recomposeZone z t)) s
  else s

/-! ## Fire-service lines (R111) -/

/-- A line's pin sampled at a device tick: the fiftieth differing sample in a row makes the change due
(R111; log 23). -/
def FireLine.sample (l : FireLine) : FireLine :=
  if l.changeDue then l
  else if l.pin == l.asserted then { l with stable := 0 }
  else if l.stable < 49 then { l with stable := l.stable + 1 }
  else { l with changeDue := true }

/-- A line's debounced state changes (R111). -/
def changeLine (k : Nat) (s : State) : State :=
  let l := s.line k
  let t := offerClass .fireLine k (flagByte (!l.asserted) :: leBytes 4 l.mapMask.toNat) <|
    s.setLine k { l with asserted := !l.asserted, stable := 0, changeDue := false }
  if t.formsZones then each l.zones formSources t else t

/-! ## The commands -/

/-- FIRE_LINE (R111). -/
def execFireLine (line : Fin 4) (s : State) : Host.Outcome State Fault Refusal :=
  .next <| onlyIf (s.line line.val).changeDue (changeLine line.val) s

/-- FIRE_PIN_CHANGE (R111). -/
def execFirePinChange (line : Fin 4) (asserted : Bool) (s : State) :
    Host.Outcome State Fault Refusal :=
  .next (alterLine line.val (fun l => { l with pin := asserted }) s)

end Sys2Proof.Machine
end

