-- ==== Sys2Proof/Machine/Clock.lean ====
section
/-! DEFINITION. The device tick (R22; log 2): what happens at each ms whatever is commanded. Every running
timer comes one ms nearer its expiry, the fire pins are sampled, and the tick sources of the cadence
channels tick; an expiry itself is a command (log 3). -/

namespace Sys2Proof.Machine

/-- The settle, wake, fault hold and sweep timers and the reply window of a string (R140, R145, R147,
R157). -/
def PanelString.tick (x : PanelString) : PanelString :=
  { x with
    settle := tickTimer x.settle, wake := tickTimer x.wake, hold := tickTimer x.hold,
    sweepTimer := tickTimer x.sweepTimer,
    line := match x.line with
      | .window v got timeout remaining => .window v got timeout (remaining - 1)
      | .free => .free
      | .sending c chars visit => .sending c chars visit }

/-- The timers that run in RUNNING alone: the scan interval (R34), the request hold (R98), the lantern times
(R55) and the session timers (R73). -/
def tickRunning (s : State) : State :=
  let t := s.withScan { s.scan with timer := tickTimer s.scan.timer }
  let u := t.withEru { t.eru with requestHold := t.eru.requestHold - 1 }
  let v := u.withClu { u.clu with
    lanterns := tmap (Option.map fun x : Lantern => { x with remaining := tickTimer x.remaining })
      u.clu.lanterns }
  v.withDrq { v.drq with
    sessions := tmap (fun x => { x with timer := tickTimer x.timer }) v.drq.sessions }

/-- The check timer, in RUNNING and STOPPING (R176). -/
def tickCheck (s : State) : State := s.withDpm { s.dpm with timer := tickTimer s.dpm.timer }

/-- Quarantine times, which stand still in IDLE (R129). -/
def tickQuarantine (s : State) : State :=
  s.withCst { s.cst with badIds := s.cst.badIds.map fun b => { b with remaining := b.remaining - 1 } }

/-- The strings' timers. -/
def tickStrings (s : State) : State :=
  s.withStc { s.stc with strings := tmap PanelString.tick s.stc.strings }

/-- The fire pins are sampled, in every device state (R111). -/
def samplePins (s : State) : State := s.withOvr { s.ovr with lines := tmap FireLine.sample s.ovr.lines }

/-- One device tick (R22; log 2). -/
def deviceTick (s : State) : State :=
  let t := samplePins (tickStrings (s.withDev { s.dev with time := s.dev.time + 1 }))
  oweTicks <|
    onlyIf t.isRunning tickRunning <|
    onlyIf (t.dev.state == .running || t.dev.state == .stopping) tickCheck <|
    onlyIf (t.dev.state != .idle) tickQuarantine t

end Sys2Proof.Machine
end

