-- ==== Sys2Proof/Machine/Flags.lean ====
section
/-! DEFINITION. The register window as the host reads it (R20, R21, R180, R181): a read changes nothing and
has no row among the commands (log 28). -/

namespace Sys2Proof.Machine

/-- The STATE word (R181). -/
def State.stateWord (s : State) : Word32 :=
  BitVec.ofNat 32
    (s.dev.state.code + 4 * s.dpm.presence.code + 16 * flagNum s.port.boardLost
      + 256 * s.dev.startFault.code)

/-- A read of the window at an offset and width: 0 where no register is read (R20). -/
def State.windowRead (s : State) (offset width : Nat) : Word32 :=
  if width = 32 then
    match offset with
    | 0x00 => s.win.anchorLo
    | 0x04 => s.win.anchorHi
    | 0x08 => BitVec.ofNat 32 (flagNum s.win.runBit)
    | 0x0C => s.stateWord
    | 0x10 => s.cause.setWidth 32
    | 0x14 => s.win.mask.setWidth 32
    | _ => 0
  else 0

end Sys2Proof.Machine
end

