-- ==== Sys2Proof/Machine/Displays.lean ====
section
/-! DEFINITION. The Display Directory and the Composition Unit (file 01): display takes, the resolution of
frame plans, and the command RECOMPOSE. -/

namespace Sys2Proof.Machine

/-! ## Display takes (R2 to R6) -/

/-- The cars a binding names (R3). -/
def Binding.cars : Binding → List Nat
  | .carPosition car _ | .hallLantern car _ => [car]
  | .lobbyOverview cars => cars
  | .unused | .keypad .. | .free => []

/-- The car and floor of the lantern of a BOUND record. -/
def DisplayRecord.lantern (r : DisplayRecord) : Option (Nat × Nat) :=
  match r.status, r.binding with
  | .bound, .hallLantern car floor => some (car, floor)
  | _, _ => none

/-- The panel a BOUND record holds. -/
def DisplayRecord.panel (r : DisplayRecord) : Option (Nat × Nat) :=
  if r.status == .bound then some (r.string, r.address) else none

/-- A record other than `d` holds the panel of `r` (R3). -/
def State.panelTaken (s : State) (d : Nat) (r : DisplayRecord) : Bool :=
  (twhere s.ddir fun x => x.panel == r.panel).any (· != d)

/-- A record other than `d` holds the keypad slot of `r` (R3). -/
def State.slotTaken (s : State) (d : Nat) (r : DisplayRecord) : Bool :=
  match r.slot with
  | none => false
  | some (slot, _) => (twhere s.ddir fun x => (x.slot.map Prod.fst) == some slot).any (· != d)

/-- The checks of R3 in their order, `none` where all pass. -/
def State.displayRefusal (s : State) (d : Nat) (r : DisplayRecord) : Option Reason :=
  if r.status != .bound then none
  else if !(r.binding.cars.all s.configured) then some .car
  else if s.panelTaken d r then some .dupPanel
  else if s.slotTaken d r then some .dupSlot
  else none

/-- The panel and kind of both records are one, and both are BOUND (R5). -/
def samePanel (old new : DisplayRecord) : Bool :=
  old.panel.isSome && old.panel == new.panel && old.binding.kind == new.binding.kind

/-- The notices to the String Controllers (R5). -/
def panelNotices (old new : DisplayRecord) (s : State) : State :=
  if samePanel old new then s
  else
    let t := match old.panel with
      | some (k, a) => leaveSchedule k a s
      | none => s
    let u := match new.panel with
      | some (k, a) => enterSchedule k a t
      | none => t
    let v := onlyIf old.panel.isSome (settleString old.string) u
    onlyIf new.panel.isSome (settleString new.string) v

/-- The old slot is unbound from the old record (R5, R66; log 14). -/
def unbindNotice (old new : DisplayRecord) (s : State) : State :=
  match old.slot with
  | some (slot, _) => if old.slot == new.slot then s else unbindSession old slot s
  | none => s

/-- The new slot is bound, or the session kept takes the record's new zone, flag and panel (R5, R66). -/
def bindNotice (d : Nat) (old new : DisplayRecord) (s : State) : State :=
  match new.slot with
  | none => s
  | some (slot, _) =>
    if old.slot == new.slot then
      let t := onlyIf (!samePanel old new) (sessionPanelChanged slot) s
      onlyIf (old.zone != new.zone || old.assist != new.assist) (sessionZoneChanged slot new.zone) t
    else
      bindSession slot d (samePanel old new && s.panelOffline new.string new.address) s

/-- The lantern record of a display removed or created (R5, R55). -/
def lanternNotice (d : Nat) (old new : DisplayRecord) (s : State) : State :=
  if old.lantern == new.lantern then s
  else s.setLantern d (new.lantern.map fun b => Lantern.initial b.1 b.2)

/-- An accepted take: the record is replaced, and then each block is told what changed for it (R4, R5): DRQ of
the unbinding, STC, DRQ of the binding, CLU, and CMP (the order of log 46). -/
def acceptDisplay (d : Nat) (new : DisplayRecord) (s : State) : State :=
  let old := s.display d
  let t := panelNotices old new (unbindNotice old new (s.setDisplay d new))
  let u := lanternNotice d old new (bindNotice d old new t)
  if new.status == .bound then askRecompose .plain d u else dropComposition d u

/-- A new take of display cell `d`, from byte 4 of the cell on: the state after it and its receipt's
verdict and reason (R2, R3, R4, R6). -/
def takeDisplay (d : Nat) (body : List Byte) (s : State) : State × Verdict × Reason :=
  match displayFields body with
  | none => (s, .rejected, .range)
  | some r =>
    match s.displayRefusal d r with
    | some why => (s, .rejected, why)
    | none => (acceptDisplay d r s, .accepted, .unset)

/-! ## Live plans (R11, R12, R61 to R63) -/

/-- Field bytes of a CAR_POSITION plan (formats of file 03). -/
def positionFields (label : List Byte) (arrow motion : Nat) (fire : Bool) (deck : Nat) (full : Bool) :
    List Byte :=
  padTo 10 (padTo 4 label ++ [BitVec.ofNat 8 arrow, BitVec.ofNat 8 motion, flagByte fire,
    BitVec.ofNat 8 deck, flagByte full])

/-- The live plan of a CAR_POSITION display (R61). -/
def State.positionPlan (s : State) (car : Nat) (deck : Deck) : Option Nat × List Byte :=
  let x := s.car car
  let shown := if deck == .upper then x.upperShown else x.lowerShown
  let fields (label : List Byte) (arrow motion : Nat) : List Byte :=
    positionFields label arrow motion (x.mode == .fireService) deck.code x.full
  if x.state == .lost || x.mode == .outOfService then (some 4094, zeroFields)
  else if x.state == .unheard || shown.isNone && deck == .upper then (none, fields noFloorText 0 0)
  else if x.state == .stale then (none, fields (s.floorLabel shown) 0 0)
  else (none, fields (s.floorLabel shown) x.direction.code x.motion.code)

/-- The live plan of a HALL_LANTERN display (R62). -/
def State.lanternPlan (s : State) (d : Nat) : Option Nat × List Byte :=
  match s.lantern d with
  | none => (none, padTo 10 [0x20, 0x20])
  | some x =>
    match x.state with
    | .dark => (none, padTo 10 [0x20, 0x20])
    | .expected => (none, padTo 10 (s.carLabel x.car))
    | .arriving => (none, padTo 10 (s.carLabel x.car ++ [BitVec.ofNat 8 x.direction.code, 1]))

/-- The floor code of an overview's place (R63). -/
def State.overviewFloor (s : State) : Option Nat → Byte
  | none => 0xFF
  | some car =>
    let x := s.car car
    if x.state == .lost || x.state == .unheard then 0xFF
    else match x.lowerShown with
      | some floor => BitVec.ofNat 8 floor
      | none => 0xFF

/-- The arrow of an overview's place (R63). -/
def State.overviewArrow (s : State) : Option Nat → Nat
  | none => 0
  | some car => if (s.car car).state == .fresh then (s.car car).direction.code else 0

/-- The live plan of a LOBBY_OVERVIEW display (R63). -/
def State.overviewPlan (s : State) (cars : List Nat) : Option Nat × List Byte :=
  let places := (List.range 8).map fun i => cars[i]?
  (none, places.map s.overviewFloor
    ++ leBytes 2 ((List.range 8).map fun i => s.overviewArrow cars[i]? * 4 ^ i).sum)

/-- The live plan of a record's kind: its item, `none` for the template, and field bytes 0 to 9 (R11,
R12). -/
def State.livePlan (s : State) (d : Nat) (b : Binding) : Option Nat × List Byte :=
  match b with
  | .carPosition car deck => s.positionPlan car deck
  | .hallLantern .. => s.lanternPlan d
  | .lobbyOverview cars => s.overviewPlan cars
  | .keypad slot _ => keypadPlan s (s.session slot)
  | .free | .unused => (none, zeroFields)

/-! ## Resolution (R11, R13, R14, R19) -/

/-- The brightness of a record's plan (R11, R19). -/
def State.brightnessOf (s : State) (r : DisplayRecord) : Nat :=
  if r.brightness != 0 then r.brightness
  else match (s.panel (panelIndex r.string r.address)).light with
    | some level => lightStep level
    | none => 8

/-- What a display waits on after a lookup (R13). -/
def LookupAnswer.wait (item : Nat) : LookupAnswer → Wait
  | .hit => .nothing
  | .missTaken => .fill item
  | .missRefused => .anyFill
  | .faultAtOnce => .release item

/-- The plan's item under case 2 of R11: the override item when it is held, else EVACUATE (R14). -/
def resolveEvacuate (item : Nat) (p : Plan) (s : State) : State × Plan × Wait :=
  if fetched item then
    let r := lookupItem item false s
    (r.1, { p with item := if r.2 == .hit then item else 4093 }, r.2.wait item)
  else (s, { p with item := item }, .nothing)

/-- The plan completed from its item's availability (R13). -/
def completePlan (item : Nat) (p : Plan) (s : State) : State × Plan × Wait :=
  if fetched item then
    let r := lookupItem item false s
    (r.1, { p with item := item, pending := r.2 != .hit }, r.2.wait item)
  else (s, { p with item := item }, .nothing)

/-- The plan of a BOUND display, by the first case of R11 that applies. -/
def resolvePlan (d : Nat) (s : State) : State × Plan × Wait :=
  let r := s.display d
  let z := s.zone r.zone
  let p : Plan :=
    { item := 4088, fields := zeroFields, banner := none, timer := r.timer,
      brightness := s.brightnessOf r, pending := false }
  if !r.enable then (s, p, .nothing)
  else if z.priority == .evacuate then resolveEvacuate (z.item.getD 4093) p s
  else if z.priority == .service && s.attached then completePlan (z.item.getD 4088) p s
  else
    let live := s.livePlan d r.binding
    let banner := if z.priority == .notice && s.attached then z.item else none
    completePlan (live.1.getD (r.template.getD 4088)) { p with fields := live.2, banner := banner } s

/-- The new plan asks for an urgent mark (R10). -/
def marksUrgent (why : Ask) (old new : Plan) : Bool :=
  new != old && !new.pending && (why.urgent || (why.fill && old.pending))

/-- A display is recomposed (R8, R9, R10). -/
def recomposeDisplay (why : Ask) (d : Nat) (s : State) : State :=
  let c := s.comp d
  let r := resolvePlan d s
  let stamp := if r.2.1 == c.plan then c.stamp else c.stamp + 1
  let t := r.1.setComp d { plan := r.2.1, stamp := stamp, wait := r.2.2, asked := none }
  onlyIf (marksUrgent why c.plan r.2.1) (markUrgent d) t

/-- RECOMPOSE: the request that waits for a display is taken, or dropped where the display is not BOUND
(R9, R11). -/
def execRecompose (display : Fin 512) (s : State) : Host.Outcome State Fault Refusal :=
  .next <|
    match (s.comp display.val).asked with
    | none => s
    | some why =>
      if s.isBound display.val then recomposeDisplay why display.val s
      else dropComposition display.val s

end Sys2Proof.Machine
end

