-- ==== Sys2Proof/Machine/Presence.lean ====
section
/-! DEFINITION. The Dispatch Presence Monitor (file 11), and what the end of any access sequence does to
the Board failure count and to presence (R41, R42). -/

namespace Sys2Proof.Machine

/-- The DPM's record replaced. -/
def alterDpm (f : Dpm → Dpm) (s : State) : State := s.withDpm (f s.dpm)

/-- The notices of a change of presence, in the order of R178. -/
def presenceNotices (old new : Presence) (s : State) : State :=
  if new == .attached then overridesAttached s
  else if old == .attached then overridesDetached (lanternsDetached (sessionsDetached s))
  else if old == .waitingFirst then overridesDetached s
  else s

/-- A change of presence (R177, R178). -/
def changePresence (new : Presence) (s : State) : State :=
  let old := s.dpm.presence
  let t := alterDpm
    (fun d => { d with presence := new, unchanged := 0, changed := 0,
                       counting := if new == .detachedBoard then false else d.counting }) s
  markDirty .device <|
    setCause .presence <|
    offerClass .presence 0
      [BitVec.ofNat 8 old.code, BitVec.ofNat 8 new.code, BitVec.ofNat 8 s.port.failures] <|
    presenceNotices old new t

/-- BOARD_LOST is set: its cause bit, the condition of STOPPING (R24) and presence (R41, R177), which is
kept as it stands in IDLE (R175, R181). -/
def setBoardLost (s : State) : State :=
  let t := setCause .board (s.withPort { s.port with boardLost := true })
  let u := if t.dev.state == .stopping then t.withDev { t.dev with stopLost := true } else t
  if u.dpm.presence == .detachedBoard then
    alterDpm (fun d => { d with changed := 0, counting := false }) u
  else onlyIf (u.dev.state != .idle) (changePresence .detachedBoard) u

/-- BOARD_LOST is cleared: presence counts again (R42, R177). -/
def clearBoardLost (s : State) : State :=
  alterDpm (fun d => if d.presence == .detachedBoard then { d with counting := true } else d)
    (s.withPort { s.port with boardLost := false })

/-- The Board failure count takes a value; a change marks the device record (R41). -/
def setFailures (n : Nat) (s : State) : State :=
  onlyIf (n != s.port.failures) (markDirty .device) (s.withPort { s.port with failures := n })

/-- The access sequence in flight ends, in success or in a bus error; the port is free (R40, R41, R42). -/
def endSequence (ok : Bool) (s : State) : State :=
  let t := s.withPort { s.port with inFlight := none }
  if ok then onlyIf t.port.boardLost clearBoardLost (setFailures 0 t)
  else
    onlyIf (t.port.failures == 3) setBoardLost (setFailures (min 255 (t.port.failures + 1)) t)

/-! ## Checks (R176, R177) -/

/-- A changed check in DETACHED: counted, and at the reattach count ATTACHED. -/
def countChange (s : State) : State :=
  let n := s.dpm.changed + 1
  if s.hdr.reattachCount ≤ n then changePresence .attached s
  else alterDpm (fun d => { d with changed := n }) s

/-- A changed check; `cleared` says that the check itself cleared BOARD_LOST (R177). -/
def changedCheck (cleared : Bool) (s : State) : State :=
  match s.dpm.presence with
  | .waitingFirst => changePresence .attached s
  | .attached => alterDpm (fun d => { d with unchanged := 0 }) s
  | .detachedHeartbeat => countChange s
  | .detachedBoard =>
    if cleared || !s.dpm.counting then alterDpm (fun d => { d with counting := true }) s
    else countChange s

/-- An unchanged or failed check (R177). -/
def unchangedCheck (s : State) : State :=
  match s.dpm.presence with
  | .waitingFirst => s
  | .attached =>
    let n := s.dpm.unchanged + 1
    if s.hdr.detachCount ≤ n then changePresence .detachedHeartbeat s
    else alterDpm (fun d => { d with unchanged := n }) s
  | .detachedHeartbeat | .detachedBoard => alterDpm (fun d => { d with changed := 0 }) s

/-- The end of a heartbeat read that is not discarded (R176). A failed one is counted toward BOARD_LOST, which
may move presence, before presence takes it as unchanged (log 50). -/
def takeCheck (answer : WordRead) (s : State) : State :=
  let cleared := s.port.boardLost && answer.isSome
  let t := endSequence answer.isSome (alterDpm (fun d => { d with checkPending := false }) s)
  match answer with
  | none => unchangedCheck t
  | some v =>
    if v == t.dpm.lastSeen then unchangedCheck t
    else
      changedCheck cleared (markDirty .device (alterDpm (fun d => { d with lastSeen := v }) t))

/-- The check timer's expiry may be taken (R176). -/
def State.checkDue (s : State) : Bool :=
  (s.dev.state == .running || s.dev.state == .stopping) && timerDue s.dpm.timer

/-! ## The command of the check timer -/

/-- PRESENCE_CHECK_EXPIRY (R176). -/
def execPresenceCheckExpiry (s : State) : Host.Outcome State Fault Refusal :=
  .next <| onlyIf s.checkDue
    (fun t => alterDpm
      (fun d => { d with timer := some t.hdr.checkInterval, checkPending := true }) t) s

end Sys2Proof.Machine
end

