-- ==== Sys2Proof/Machine/Pages.lean ====
section
/-! DEFINITION. The page engine of the Event Route Unit (file 05): the work of the routes, page draws,
writes and closes, and the commands of the routes. -/

namespace Sys2Proof.Machine

/-- A change made to a route record. -/
def alterRoute (r : Nat) (f : Route → Route) (s : State) : State := s.setRoute r (f (s.route r))

/-! ## The work of a route (R98, R99) -/

/-- A page is available (R97). -/
def State.pageAvailable (s : State) : Bool := s.available != 0

/-- The open page can take records: none pending to close, fewer than 14 records (R99, R106). -/
def Route.takesRecords (x : Route) : Bool :=
  x.openPage.isSome && x.closing.isNone && decide (x.records < 14)

/-- The rank of a route's work, its lowest that applies (R99). -/
def State.rank (s : State) (r : Nat) : Option Nat :=
  let x := s.route r
  if x.openPage.isSome && !x.openWritten then some 1
  else if x.closing.isSome && x.successor.isNone && s.pageAvailable then some 2
  else if x.closing.isSome then some 3
  else if !x.staging.isEmpty && x.openPage.isNone && s.pageAvailable then some 4
  else if x.takesRecords && x.openWritten && !x.staging.isEmpty then some 5
  else if x.enabled && s.dev.state != .stopping && x.openPage.isSome && x.successor.isNone
      && s.pageAvailable then some 6
  else none

/-- The routes after the one served last, in cyclic order (R99). -/
def State.routeOrder (s : State) : List Nat :=
  (List.range 8).map fun k => (s.eru.lastServed + 1 + k) % 8

/-- The route the page engine serves at a grant: one with work of rank 1 to 5, else of rank 6 (R99). -/
def State.engineRoute (s : State) : Option Nat :=
  match s.routeOrder.find? fun r => (s.rank r).any (· ≤ 5) with
  | some r => some r
  | none => s.routeOrder.find? fun r => (s.rank r).isSome

/-- A route needs a page (R98). -/
def Route.needsPage (x : Route) : Bool :=
  (!x.staging.isEmpty && x.openPage.isNone) || (x.closing.isSome && x.successor.isNone)
    || (x.enabled && x.openPage.isSome && x.successor.isNone)

/-! ## The sequences of the page engine (R97, R100, R101, R103) -/

/-- The address of the supply slot that the next draw reads (R97). -/
def State.supplySlot (s : State) : BitVec 64 :=
  s.dev.board + BitVec.ofNat 64 (0x908 + 8 * (s.eru.drawn.toNat % 64))

/-- The 32 bytes of an OPEN header (R100; formats of file 05). -/
def State.openHeader (s : State) (r : Nat) : List Byte :=
  let x := s.route r
  [1, BitVec.ofNat 8 r, 0, 0] ++ leBytes 4 x.serial.toNat ++ leBytes 8 0 ++ leBytes 2 x.chain.toNat
    ++ leBytes 2 0 ++ leBytes 4 s.dev.time.toNat ++ leBytes 4 0 ++ leBytes 4 0

/-- The open page's address; 0 where there is none. -/
def Route.openAddress (x : Route) : BitVec 64 :=
  match x.openPage with
  | some p => pageAddress p
  | none => 0

/-- The event at the head of the staging queue as bytes. -/
def Route.headBytes (x : Route) : List Byte :=
  match x.staging with
  | e :: _ => e.bytes
  | [] => []

/-- A record write: the event's 16 bytes, and then the new record count (R101). -/
def Route.recordOps (x : Route) : List BusOp :=
  [.write (x.openAddress + BitVec.ofNat 64 (32 + 16 * x.records)) x.headBytes,
   .write (x.openAddress + 2) [BitVec.ofNat 8 (x.records + 1)]]

/-- A close names the successor as next address (R103, R106). -/
def Route.closesTo (x : Route) : Option (BitVec 40) :=
  if x.closing == some .stop then none else x.successor

/-- A close write, field by field in the order of R103, CLOSED last. -/
def State.closeOps (s : State) (r : Nat) : List BusOp :=
  let x := s.route r
  let next : BitVec 64 := match x.closesTo with
    | some p => pageAddress p
    | none => 0
  let reason := match x.closing with
    | some c => c.code
    | none => 0
  [.write (x.openAddress + 8) (leBytes 8 next.toNat),
   .write (x.openAddress + 2) [BitVec.ofNat 8 x.records],
   .write (x.openAddress + 3) [BitVec.ofNat 8 reason],
   .write (x.openAddress + 18) (leBytes 2 x.dropped),
   .write (x.openAddress + 24) (leBytes 4 s.dev.time.toNat),
   .write x.openAddress [2]]

/-- The sequence of a route's work (R99). -/
def State.routeWork (s : State) (r rank : Nat) : InFlight :=
  let x := s.route r
  match rank with
  | 1 => { access := .openWrite r, ops := [.write x.openAddress (s.openHeader r)], discarded := false }
  | 3 =>
    { access := .closeWrite r x.dropped x.closesTo.isSome, ops := s.closeOps r, discarded := false }
  | 5 => { access := .recordWrite r, ops := x.recordOps, discarded := false }
  | _ => { access := .pageDraw r (rank == 4), ops := [.read s.supplySlot 8], discarded := false }

/-! ## The ends of the sequences -/

/-- The drawn count rises (R97). -/
def countDraw (s : State) : State :=
  markDirty .device (s.withEru { s.eru with drawn := s.eru.drawn + 1 })

/-- A page is opened, without or with a successor's header written (R100). -/
def Route.openAt (page : Option (BitVec 40)) (x : Route) : Route :=
  { x with openPage := page, openWritten := false, records := 0, closing := none }

/-- A page drawn by a route with no page before it starts a new chain (R100). -/
def Route.startChain (page : BitVec 40) (x : Route) : Route :=
  { x.openAt (some page) with chain := x.chain + 1, chainHead := some page }

/-- The outcome of a successful draw (R97). -/
def placePage (r : Nat) (asOpen : Bool) (slot : BitVec 64) (s : State) : State :=
  let page : BitVec 40 := slot.extractLsb' 8 40
  if page = 0 then countDraw s
  else
    markDirty (.route r) <|
      alterRoute r
        (fun x => if asOpen then x.startChain page else { x with successor := some page })
        (countDraw s)

/-- A record write has succeeded (R101). -/
def Route.recordWritten (now : Word32) (x : Route) : Route :=
  { x with
    staging := x.staging.tail, records := x.records + 1,
    firstTime := if x.records = 0 then now else x.firstTime,
    closing := if x.closing.isNone && x.records + 1 == 14 then some .full else x.closing }

/-- A close write has succeeded, in the order of R103. -/
def closeWritten (r carried : Nat) (toSuccessor : Bool) (s : State) : State :=
  markDirty (.route r) <|
    alterRoute r (fun x => { x with successor := if toSuccessor then none else x.successor }) <|
    setCause (.route r) <|
    alterRoute r (fun x =>
      { x.openAt (if toSuccessor then x.successor else none) with
        serial := x.serial + 1, dropped := x.dropped - carried }) s

/-! ## Closes (R102, R106) -/

/-- The open page holds records and has no close pending (R102, R106). -/
def Route.closable (x : Route) : Bool :=
  x.openPage.isSome && decide (0 < x.records) && x.closing.isNone

/-- A close becomes pending where the page holds records and none is (R102). -/
def Route.requestClose (why : CloseReason) (x : Route) : Route :=
  if x.closable then { x with closing := some why } else x

/-- The flush age of a route's page has passed (R102). -/
def State.ageDue (s : State) (r : Nat) : Bool :=
  s.dev.state != .idle && (s.route r).closable
    && decide (s.hdr.flushAge ≤ s.since (s.route r).firstTime)

/-- Every string is OFF (R24, R106). -/
def State.allOff (s : State) : Bool := (tlist s.stc.strings).all fun x => x.state == .off

/-- A route's record write holds the port. -/
def State.recordInFlight (s : State) (r : Nat) : Bool :=
  s.port.inFlight.any fun f => f.access == .recordWrite r

/-- A route may reach its stop point (R106; log 13). -/
def State.stopPointDue (s : State) (r : Nat) : Bool :=
  let x := s.route r
  s.dev.state == .stopping && s.allOff && !x.stopped && !s.recordInFlight r
    && (x.staging.isEmpty || (!x.takesRecords && !s.pageAvailable))

/-- A route reaches its stop point: what it still holds is discarded and counted, and a STOP close becomes
pending where its page holds records (R106). -/
def reachStopPoint (r : Nat) (s : State) : State :=
  alterRoute r (fun x => { x.requestClose .stop with stopped := true, staging := [] }) <|
    each (s.route r).staging (fun _ => countRefusal r) s

/-! ## The routing table of a live configuration (R89, R94) -/

/-- A route's enable bit set; a change marks its mirror record (R94, R108). -/
def setEnable (r : Nat) (on : Bool) (s : State) : State :=
  onlyIf ((s.route r).enabled != on) (markDirty (.route r))
    (alterRoute r (fun x => { x with enabled := on }) s)

/-- The routing table and the enables replaced, every cursor at E0 (R89). -/
def takeRouting (table : Vector RouteEntry 40) (enables : Byte) (s : State) : State :=
  each (List.range 8) (fun r => setEnable r (enables.getLsbD r))
    (s.withEru { s.eru with table := tmap (fun e => { e with cursor := 0 }) table })

/-! ## The commands -/

/-- The end of a sequence: the port's part always, the claimant's part where the result is not to be
discarded (R22, R25, R40). The success or failure is counted, with BOARD_LOST and its change of presence, before
the claimant takes its own part (R41; log 51). -/
def finishWith (f : InFlight) (ok : Bool) (effect : State → State) (s : State) : State :=
  onlyIf (!f.discarded) effect (endSequence ok s)

/-- PAGE_DRAW (R97). -/
def execPageDraw (answer : Option (BitVec 64)) (s : State) : Host.Outcome State Fault Refusal :=
  .next <|
    match s.port.inFlight with
    | some f =>
      match f.access with
      | .pageDraw r asOpen =>
        finishWith f answer.isSome
          (fun t => match answer with
            | some slot => placePage r asOpen slot t
            | none => t) s
      | _ => s
    | none => s

/-- OPEN_WRITE (R100). -/
def execOpenWrite (ok : Bool) (s : State) : Host.Outcome State Fault Refusal :=
  .next <|
    match s.port.inFlight with
    | some f =>
      match f.access with
      | .openWrite r =>
        finishWith f ok (onlyIf ok (alterRoute r fun x => { x with openWritten := true })) s
      | _ => s
    | none => s

/-- RECORD_WRITE (R101). -/
def execRecordWrite (ok : Bool) (s : State) : Host.Outcome State Fault Refusal :=
  .next <|
    match s.port.inFlight with
    | some f =>
      match f.access with
      | .recordWrite r =>
        finishWith f ok (onlyIf ok (alterRoute r (Route.recordWritten s.dev.time))) s
      | _ => s
    | none => s

/-- CLOSE_WRITE (R103). -/
def execCloseWrite (ok : Bool) (s : State) : Host.Outcome State Fault Refusal :=
  .next <|
    match s.port.inFlight with
    | some f =>
      match f.access with
      | .closeWrite r carried toSuccessor =>
        finishWith f ok (onlyIf ok (closeWritten r carried toSuccessor)) s
      | _ => s
    | none => s

/-- FLUSH_AGE_EXPIRY (R102). -/
def execFlushAgeExpiry (route : Fin 8) (s : State) : Host.Outcome State Fault Refusal :=
  .next <| onlyIf (s.ageDue route.val) (alterRoute route.val (Route.requestClose .age)) s

/-- ROUTE_STOP_POINT (R106). -/
def execRouteStopPoint (route : Fin 8) (s : State) : Host.Outcome State Fault Refusal :=
  .next <| onlyIf (s.stopPointDue route.val) (reachStopPoint route.val) s

/-- NUDGE_FLUSH: in RUNNING every route at once (R26, R102). -/
def execNudgeFlush (s : State) : Host.Outcome State Fault Refusal :=
  .next <| onlyIf s.isRunning
    (fun t => t.withEru { t.eru with routes := tmap (Route.requestClose .flush) t.eru.routes }) s

end Sys2Proof.Machine
end

