-- ==== Sys2Proof/Machine/Mirror.lean ====
section
/-! DEFINITION. The mirror (R37 to R39): the bytes of each mirror record, the capture of the next dirty
record, and the command MIRROR_WRITE. -/

namespace Sys2Proof.Machine

/-! ## The bytes of the records (Board formats) -/

/-- A page address as five bytes, bits 47:8; 0 for none (R108). -/
def pageBytes (p : Option (BitVec 40)) : List Byte :=
  leBytes 5 (match p with | some a => a.toNat | none => 0)

/-- A receipt, 8 bytes. -/
def Receipt.bytes (r : Receipt) : List Byte :=
  leBytes 4 r.count.toNat
    ++ [BitVec.ofNat 8 r.verdict.code, BitVec.ofNat 8 r.reason.code, 0, 0]

/-- A keypad record, 8 bytes (R85). -/
def Session.bytes (x : Session) : List Byte :=
  [BitVec.ofNat 8 x.state.code, BitVec.ofNat 8 x.fallback.code] ++ leBytes 2 x.ticket
    ++ [BitVec.ofNat 8 (x.route.getD 0xFF), 0, 0, 0]

/-- The body of a car record, bytes 4 to 11 (R64). -/
def Car.bytes (x : Car) : List Byte :=
  [BitVec.ofNat 8 x.state.code, BitVec.ofNat 8 x.lower, BitVec.ofNat 8 x.upper,
   BitVec.ofNat 8 (x.motion.code + 4 * x.direction.code), BitVec.ofNat 8 x.door.code,
   BitVec.ofNat 8 (x.mode.code + 128 * flagNum x.full), BitVec.ofNat 8 x.sequence,
   BitVec.ofNat 8 x.gaps]

/-- A panel record, 4 bytes (R167). -/
def Panel.bytes (p : Panel) : List Byte :=
  [BitVec.ofNat 8 p.health.code, BitVec.ofNat 8 p.misses, BitVec.ofNat 8 (p.light.getD 0), 0]

/-- A string record, 16 bytes (R153). -/
def PanelString.bytes (x : PanelString) : List Byte :=
  [BitVec.ofNat 8 x.state.code, BitVec.ofNat 8 x.faults, 0, 0] ++ leBytes 4 x.overruns.toNat
    ++ leBytes 4 x.completed.toNat ++ leBytes 4 0

/-- The body of a route record, bytes 4 to 27 (R108). -/
def Route.bytes (x : Route) : List Byte :=
  pageBytes x.openPage ++ pageBytes x.successor ++ pageBytes x.chainHead ++ [flagByte x.enabled]
    ++ leBytes 4 x.serial.toNat ++ leBytes 2 x.chain.toNat ++ leBytes 2 x.droppedTotal

/-- The device record, 32 bytes (R182). -/
def State.deviceBytes (s : State) : List Byte :=
  leBytes 4 s.eru.drawn.toNat ++ leBytes 4 s.dpm.lastSeen.toNat ++ leBytes 4 s.cst.fills.toNat
    ++ leBytes 4 s.cst.misses.toNat ++ leBytes 4 s.scan.liveTaken.toNat
    ++ [BitVec.ofNat 8 s.dpm.presence.code, BitVec.ofNat 8 s.port.failures,
        BitVec.ofNat 8 ((List.range 4).map fun k => if tget s.ovr.flags k false then 2 ^ k else 0).sum,
        BitVec.ofNat 8 s.scan.liveVerdict.code]
    ++ leBytes 8 0

/-- The offset of a mirror record from the Board address (Board layout). -/
def MirrorRecord.offset : MirrorRecord → Nat
  | .receipt c =>
    if c < 512 then 0x6000 + 8 * c
    else if c < 640 then 0x7000 + 8 * (c - 512) else 0x7400 + 8 * (c - 640)
  | .keypad n => 0x7800 + 8 * n
  | .car c => 0x8000 + 16 * c
  | .panel p => 0x8400 + 4 * p
  | .string k => 0x8C00 + 16 * k
  | .route r => 0x8D00 + 32 * r
  | .device => 0x8E00

/-- A byte address on the Board in use (R20). -/
def State.boardAt (s : State) (offset : Nat) : BitVec 64 := s.dev.board + BitVec.ofNat 64 offset

/-- A record with write counts: the lead, the body, then the tail (R39). -/
def countedOps (address : BitVec 64) (count : Word32) (body : List Byte) : List BusOp :=
  [.write address (leBytes 4 count.toNat), .write (address + 4) body,
   .write (address + BitVec.ofNat 64 (4 + body.length)) (leBytes 4 count.toNat)]

/-- The writes of a mirror record, from its contents and its write count as they stand (R37, R39). -/
def State.mirrorOps (s : State) (m : MirrorRecord) : List BusOp :=
  let a := s.boardAt m.offset
  match m with
  | .receipt c => [.write a (s.receipt c).bytes]
  | .keypad n => [.write a (s.session n).bytes]
  | .car c => countedOps a (tget s.mir.carWrites c 0) (s.car c).bytes
  | .panel p => [.write a (s.panel p).bytes]
  | .string k => [.write a (s.string k).bytes]
  | .route r => countedOps a (tget s.mir.routeWrites r 0) (s.route r).bytes
  | .device => [.write a s.deviceBytes]

/-! ## The mirror writer (R37, R38) -/

/-- The first dirty record from the place where the search begins, wrapping (R37). -/
def State.nextDirty (s : State) : Option Nat :=
  ((List.range 1401).map fun k => (s.mir.next + k) % 1401).find? fun i => tget s.mir.dirty i false

/-- The write count of a car or route record rises by 1 (R39). -/
def raiseWriteCount (m : MirrorRecord) (s : State) : State :=
  match m with
  | .car c =>
    s.withMir { s.mir with carWrites := tset s.mir.carWrites c (tget s.mir.carWrites c 0 + 1) }
  | .route r =>
    s.withMir { s.mir with routeWrites := tset s.mir.routeWrites r (tget s.mir.routeWrites r 0 + 1) }
  | .receipt _ | .keypad _ | .panel _ | .string _ | .device => s

/-- A dirty record taken: its flag is cleared, its contents are captured, and the search goes on after it
(R37, R39), whether its write succeeds or fails (log 40); a device record carries the failure count as it
stands (log 45). -/
def captureRecord (i : Nat) (s : State) : State × InFlight :=
  let m := MirrorRecord.ofIndex i
  let t := raiseWriteCount m
    (s.withMir { s.mir with dirty := tset s.mir.dirty i false, next := (i + 1) % 1401 })
  (t, { access := .mirrorWrite i, ops := t.mirrorOps m, discarded := false })

/-- A record's flag set again after a write that failed (R38). -/
def redirty (i : Nat) (s : State) : State :=
  s.withMir { s.mir with dirty := tset s.mir.dirty i true }

/-- MIRROR_WRITE (R38). -/
def execMirrorWrite (ok : Bool) (s : State) : Host.Outcome State Fault Refusal :=
  .next <|
    match s.port.inFlight with
    | some f =>
      match f.access with
      | .mirrorWrite i => finishWith f ok (onlyIf (!ok) (redirty i)) s
      | _ => s
    | none => s

end Sys2Proof.Machine
end

