-- ==== Sys2Proof/Machine/Scanner.lean ====
section
/-! DEFINITION. The scanner (R28 to R36): areas and their requests, the places of a scan, cell takes, and
the application of a live configuration. -/

namespace Sys2Proof.Machine

/-- A change made to the scanner. -/
def alterScan (f : Scanner → Scanner) (s : State) : State := s.withScan (f s.scan)

/-! ## Areas (R33, R34) -/

def Area.index : Area → Nat
  | .cells => 0 | .answers => 1 | .overrides => 2 | .live => 3 | .supply => 4

def scanAreas : List Area := [.cells, .answers, .overrides, .live, .supply]

/-- The condition of an area. -/
def Scanner.area (x : Scanner) (a : Area) : AreaCondition := tget x.areas a.index AreaCondition.idle

def Scanner.setArea (a : Area) (c : AreaCondition) (x : Scanner) : Scanner :=
  { x with areas := tset x.areas a.index c }

/-- A request reaches an area (R33). -/
def AreaCondition.request (c : AreaCondition) : AreaCondition :=
  match c.phase with
  | .idle => { c with phase := .requested }
  | .requested => c
  | .inFlight => { c with rescan := true }

/-- An area requested in RUNNING (R26, R34). -/
def requestArea (a : Area) (s : State) : State :=
  alterScan (fun x => x.setArea a (x.area a).request) s

/-- The first place of an area's scan (R32, R33). -/
def Area.firstPlace : Area → ScanPlace
  | .cells => .counter .cells 0
  | .answers => .counter .answers 16
  | .overrides => .counter .overrides 20
  | .live => .live
  | .supply => .supply

/-- The areas after the one last scanned, in cyclic order (R33). -/
def Scanner.areaOrder (x : Scanner) : List Area :=
  (List.range 5).filterMap fun k => scanAreas[(x.lastScanned.index + 1 + k) % 5]?

/-- The area that the scanner starts next (R33). -/
def Scanner.nextArea (x : Scanner) : Option Area :=
  if x.place.isSome then none
  else x.areaOrder.find? fun a => (x.area a).phase == .requested

/-- An area's scan starts (R33). -/
def Scanner.start (a : Area) (x : Scanner) : Scanner :=
  { x.setArea a { (x.area a) with phase := .inFlight } with
    lastScanned := a, place := some a.firstPlace }

/-- In RUNNING the scanner starts the next requested area when no scan is in flight (R33). -/
def startScan (s : State) : State :=
  match s.isRunning, s.scan.nextArea with
  | true, some a => alterScan (Scanner.start a) s
  | _, _ => s

/-- A scan ends (R33); in STOPPING nothing follows it (R24). -/
def endScan (a : Area) (s : State) : State :=
  startScan <| alterScan
    (fun x =>
      { x.setArea a { phase := if (x.area a).rescan then .requested else .idle, rescan := false } with
        place := none }) s

/-! ## Groups and cells (R32) -/

/-- The area of a group, groups numbered over the three areas. -/
def areaOfGroup (g : Nat) : Area := if g < 16 then .cells else if g < 20 then .answers else .overrides

/-- Group `g` is its area's last (R32). -/
def lastGroup (g : Nat) : Bool := g == 15 || g == 19 || g == 20

/-- The number of a cell in its area, and the area's code in CELL_STUCK (R31). -/
def stuckSource (area : Area) (cell : Nat) : Nat :=
  match area with
  | .cells => cell
  | .answers => 512 + (cell - 512)
  | .overrides => 2 * 512 + (cell - 640)
  | .live => 3 * 512
  | .supply => 0

/-- CELL_STUCK (R31). -/
def offerStuck (area : Area) (cell : Nat) (lead tail again : Word32) (s : State) : State :=
  offerClass .cellStuck (stuckSource area cell)
    (leBytes 2 lead.toNat ++ leBytes 2 tail.toNat ++ leBytes 2 again.toNat) s

/-- A torn take of a cell (R31). -/
def tornTake (area : Area) (cell : Nat) (lead tail again : Word32) (s : State) : State :=
  let n := tget s.scan.torn cell 0 + 1
  if n < 8 then alterScan (fun x => { x with torn := tset x.torn cell n }) s
  else offerStuck area cell lead tail again (alterScan (fun x => { x with torn := tset x.torn cell 0 }) s)

/-- The block that owns an area takes a new body (R30). -/
def ownerTake (area : Area) (cell : Nat) (body : List Byte) (s : State) : State × Verdict × Reason :=
  match area with
  | .cells => takeDisplay cell body s
  | .answers => takeAnswer (cell - 512) body s
  | .overrides => takeOverride (cell - 640) body s
  | .live | .supply => (s, .unset, .unset)

/-- A cell's taken count and torn count after a clean take (R30). -/
def countTake (cell : Nat) (lead : Word32) (s : State) : State :=
  alterScan (fun x => { x with taken := tset x.taken cell lead, torn := tset x.torn cell 0 }) s

/-- A cell's receipt set and marked dirty (R30). -/
def putReceipt (cell : Nat) (r : Receipt) (s : State) : State :=
  markDirty (.receipt cell) (s.withMir { s.mir with receipts := tset s.mir.receipts cell r })

/-- A new take: its body goes to the owner, and the counts and the receipt follow the verdict (R30). -/
def newTake (area : Area) (cell : Nat) (lead : Word32) (body : List Byte) (s : State) : State :=
  let r := ownerTake area cell body s
  putReceipt cell { count := lead, verdict := r.2.1, reason := r.2.2 } (countTake cell lead r.1)

/-- A cell take that ended in success, sorted into torn, no-change and new (R29, R30, R31). -/
def takeCell (area : Area) (cell : Nat) (lead : Word32) (burst : List Byte) (again : Word32)
    (s : State) : State :=
  if cleanTake lead burst again then
    if lead == tget s.scan.taken cell 0 then
      alterScan (fun x => { x with torn := tset x.torn cell 0 }) s
    else newTake area cell lead burst s
  else tornTake area cell lead (tailOf burst) again s

/-! ## Live configurations (R28) -/

/-- A live configuration that passed its checks, applied at step 5 of LOADING (R28; log 17). -/
def applyLoading (v : LiveSettings) (s : State) : State :=
  let t := takeRouting v.table v.enables (s.withDev { s.dev with load := .floorLabels })
  let u := t.withCst { t.cst with windows := v.windows, purgeSerial := v.purgeSerial }
  let w := loadTimers v.timers (loadFireMap v.fireMap u)
  each (List.range 16)
    (fun k => alterString k fun x => { x with settings := tget v.strings k StringSettings.initial }) w

/-- A string's settings replaced in RUNNING, its effective run followed at once, before the next string's (R138,
R139; log 44). -/
def changeSettings (v : Vector StringSettings 16) (k : Nat) (s : State) : State :=
  let was := s.effectiveRun k
  runChanged k was
    (alterString k (fun x => { x with settings := tget v k StringSettings.initial }) s)

/-- A live configuration that passed its checks, applied in RUNNING (R28; log 17): windows before the
purge (R133), routing before every event, and the strings' settings from S0 to S15, so that strings whose run
requests one take changes offer their STRING_STATE events in that order (R138; log 44). -/
def applyRunning (v : LiveSettings) (s : State) : State :=
  let old := s.cst.windows
  let t := takeRouting v.table v.enables s
  let u := takePurgeCell v.purgeBase v.purgeMask v.purgeSerial (changeWindows v.windows t)
  let w := changeTimers v.timers (changeFireMap v.fireMap old v.windows u)
  each (List.range 16) (changeSettings v.strings) w

/-- The counts of a clean live take, and its verdict where it was a new one (R28, R182). -/
def countLive (lead : Word32) (verdict : LiveVerdict) (s : State) : State :=
  markDirty .device
    (alterScan (fun x => { x with liveTaken := lead, liveTorn := 0, liveVerdict := verdict }) s)

/-- The verdict of the checks of R28. -/
def liveVerdictOf (burst : List Byte) : LiveVerdict :=
  if !liveInRange burst then .range else if !routingInRange burst then .routing else .accepted

/-- LIVE is wanted again after a torn or aborted take: at the next expiry, or at once when the interval is
0 (R28, R36). -/
def wantLive (s : State) : State :=
  if s.hdr.scanInterval = 0 then requestArea .live s
  else alterScan (fun x => { x with liveRetry := true }) s

/-- A torn live take in RUNNING (R28, R31). -/
def tornLive (lead tail again : Word32) (s : State) : State :=
  let n := s.scan.liveTorn + 1
  wantLive <|
    if n < 8 then alterScan (fun x => { x with liveTorn := n }) s
    else offerStuck .live 0 lead tail again (alterScan (fun x => { x with liveTorn := 0 }) s)

/-- A live take in RUNNING that ended in success (R28). -/
def takeLive (lead : Word32) (burst : List Byte) (again : Word32) (s : State) : State :=
  if cleanTake lead burst again then
    if lead == s.scan.liveTaken then countLive lead s.scan.liveVerdict s
    else
      let verdict := liveVerdictOf burst
      let t := countLive lead verdict s
      if verdict == .accepted then applyRunning (liveSettings burst) t else t
  else tornLive lead (tailOf burst) again s

/-! ## The commands of the scanner's requests -/

/-- A nudge of a scan area (R26): requested in RUNNING, its rescan-pending flag set in LOADING. -/
def nudgeArea (a : Area) (s : State) : State :=
  match s.dev.state with
  | .running => startScan (requestArea a s)
  | .loading => alterScan (fun x => x.setArea a { (x.area a) with rescan := true }) s
  | .idle | .stopping => s

/-- NUDGE_CELLS (R26). -/
def execNudgeCells (s : State) : Host.Outcome State Fault Refusal := .next (nudgeArea .cells s)

/-- NUDGE_ANSWERS (R26). -/
def execNudgeAnswers (s : State) : Host.Outcome State Fault Refusal := .next (nudgeArea .answers s)

/-- NUDGE_OVERRIDES (R26). -/
def execNudgeOverrides (s : State) : Host.Outcome State Fault Refusal :=
  .next (nudgeArea .overrides s)

/-- NUDGE_LIVE (R26). -/
def execNudgeLive (s : State) : Host.Outcome State Fault Refusal := .next (nudgeArea .live s)

/-- NUDGE_SUPPLY (R26). -/
def execNudgeSupply (s : State) : Host.Outcome State Fault Refusal := .next (nudgeArea .supply s)

/-- The scan interval has passed (R34). -/
def State.scanDue (s : State) : Bool := s.isRunning && timerDue s.scan.timer

/-- The requests of one expiry of the scan interval (R34). -/
def expireScan (s : State) : State :=
  let t := alterScan (fun x => { x with timer := some s.hdr.scanInterval, liveRetry := false }) s
  startScan <|
    requestArea .overrides <| requestArea .answers <| requestArea .cells <|
    onlyIf s.scan.liveRetry (requestArea .live) t

/-- SCAN_INTERVAL_EXPIRY (R34). -/
def execScanIntervalExpiry (s : State) : Host.Outcome State Fault Refusal :=
  .next <| onlyIf s.scanDue expireScan s

/-- The ERU may request SUPPLY: a route needs a page, none is available, and its last request lies a scan
interval back, or 10 ms where the interval is 0 (R98). -/
def State.supplyWanted (s : State) : Bool :=
  s.isRunning && !s.pageAvailable && (tlist s.eru.routes).any Route.needsPage
    && s.eru.requestHold == 0

/-- SUPPLY_SCAN_REQUEST (R98). -/
def execSupplyScanRequest (s : State) : Host.Outcome State Fault Refusal :=
  .next <| onlyIf s.supplyWanted
    (fun t => startScan <| requestArea .supply <| t.withEru { t.eru with
      requestHold := if t.hdr.scanInterval = 0 then 10 else t.hdr.scanInterval }) s

end Sys2Proof.Machine
end

