-- ==== Sys2Proof/Machine/Loading.lean ====
section
/-! DEFINITION. The device states (R22 to R25): the clearing of step 1, entries to LOADING, RUNNING,
STOPPING and IDLE, the steps of LOADING, the scanner's sequences, and the commands that end them. -/

namespace Sys2Proof.Machine

/-! ## Step 1 of LOADING (R23) -/

/-- The string record at step 1 (R138). -/
def PanelString.clearForStart (x : PanelString) : PanelString :=
  { x with faults := 0, overruns := 0, completed := 0, schedule := [] }

/-- The scanner at step 1 (R30, R33, R35; log 24). -/
def Scanner.forStart : Scanner := Scanner.initial

/-- The state named for START in each block's chapter (R23 step 1: R1, R8, R38, R39, R42, R44, R45, R54,
R55, R65, R89, R95, R97, R99, R109, R111, R112, R122, R124, R133, R137, R138, R154, R168, R175, R182). That the time
the ERU's last SUPPLY request holds off the next (R98) ends here is the model's choice, and so are the times of cars
and routes at 0 (log 54). -/
def clearForStart (s : State) : State :=
  markAllDirty
    { s with
      port := { s.port with lastGranted := .mirrorWriter, failures := 0, boardLost := false }
      scan := Scanner.forStart
      mir := { Mirror.initial with carWrites := s.mir.carWrites, routeWrites := s.mir.routeWrites }
      ddir := Vector.replicate 512 DisplayRecord.initial
      cmp := Vector.replicate 512 Composition.initial
      clu := { Clu.initial with floorLabels := s.clu.floorLabels, carLabels := s.clu.carLabels }
      drq := { Drq.initial with lastTicket := s.drq.lastTicket }
      eru := { Eru.initial with table := s.eru.table }
      ovr := { s.ovr with zones := Ovr.initial.zones, flags := Ovr.initial.flags }
      cst := { Cst.initial with purgeSerial := s.cst.purgeSerial }
      stc := { strings := tmap PanelString.clearForStart s.stc.strings, panels := Stc.initial.panels }
      cdt := Vector.replicate 16 Channel.initial
      dpm := Dpm.initial }

/-- The Board address that the registers hold (R20). -/
def Window.board (w : Window) : BitVec 64 := w.anchorHi ++ w.anchorLo

/-- Entry to LOADING, and step 1 (R22, R23). -/
def enterLoading (s : State) : State :=
  clearForStart
    (s.withDev
      { state := .loading, load := .header, startFault := .clear, time := 0, board := s.win.board,
        stopLost := false })

/-! ## Entries to IDLE, RUNNING and STOPPING -/

/-- The sequence in flight runs to its end on the bus, its result discarded (R22, R25, R137, R176). -/
def discardFlight (s : State) : State :=
  s.withPort { s.port with inFlight := s.port.inFlight.map fun f => { f with discarded := true } }

/-- The scanner with every area idle and no scan. -/
def Scanner.rest (x : Scanner) : Scanner :=
  { x with areas := Vector.replicate 5 AreaCondition.idle, place := none, timer := none,
           liveRetry := false }

/-- Entry to IDLE (R22, R38, R43, R137, R176; log 9). -/
def enterIdle (s : State) : State :=
  let t := huntAll (dropQueue (alterScan Scanner.rest (discardFlight s)))
  alterDpm (fun d => { d with timer := none, checkPending := false }) <|
    (emptyDirty t).withDev { t.dev with state := .idle, load := .outside }

/-- A step of LOADING fails (R22, R23). -/
def failLoading (code : StartFault) (s : State) : State :=
  let t := enterIdle s
  setCause .startFault (t.withDev { t.dev with startFault := code })

/-- The areas of the scanner at entry to RUNNING: those with rescan pending are requested (R33, R34). -/
def Scanner.forRunning (interval : Nat) (x : Scanner) : Scanner :=
  { x with
    areas := tmap (fun c : AreaCondition =>
      { phase := if c.rescan then .requested else .idle, rescan := false }) x.areas,
    lastScanned := .supply, place := none, timer := if interval = 0 then none else some interval }

/-- The last accepted time of a car not heard yet (R45). -/
def Car.startWatch (now : Word32) (x : Car) : Car :=
  if x.state == .unheard then { x with lastTime := now } else x

/-- Entry to RUNNING (R23 step 10, R34, R45, R138, R176); the strings take their effective runs from S0 to
S15 (log 44). -/
def enterRunning (s : State) : State :=
  let t := s.withDev { s.dev with state := .running, load := .outside }
  let u := alterDpm (fun d => { d with timer := some t.hdr.checkInterval })
    (t.withClu { t.clu with cars := tmap (Car.startWatch t.dev.time) t.clu.cars })
  let v := startScan (alterScan (Scanner.forRunning u.hdr.scanInterval) u)
  each (List.range 16) (fun k => runChanged k false) v

/-- The sequence in flight is a cell take whose outcome is to be applied (R24). -/
def State.cellTakeFlies (s : State) : Bool :=
  s.port.inFlight.any fun f =>
    match f.access with
    | .cellTake _ _ => !f.discarded
    | _ => false

/-- The scanner at entry to STOPPING: the timer stops, requests and rescan flags are cleared, and only a
scan whose cell take is in flight keeps its place (R24, R34). -/
def Scanner.forStopping (keep : Bool) (x : Scanner) : Scanner :=
  { x with
    areas := tmap (fun c : AreaCondition =>
      { phase := if keep && c.phase == .inFlight then .inFlight else .idle, rescan := false }) x.areas,
    place := if keep then x.place else none, timer := none, liveRetry := false }

/-- The outcome of a scanner sequence other than a cell take is discarded at entry to STOPPING (R24; log
9). -/
def Access.dropsAtStop : Access → Bool
  | .counterRead _ _ | .liveTake | .supplyRead => true
  | .headerRead | .floorLabelRead | .carLabelRead | .cellTake .. | .seedRead _ | .heartbeatRead
  | .fill .. | .mirrorWrite _ | .pageDraw .. | .openWrite _ | .recordWrite _ | .closeWrite .. => false

/-- Entry to STOPPING (R24, R34, R43, R138); the strings take their effective runs from S0 to S15 (log
44). -/
def enterStopping (s : State) : State :=
  let ran := (List.range 16).filter s.effectiveRun
  let t := alterScan (Scanner.forStopping s.cellTakeFlies)
    (s.withPort { s.port with inFlight := s.port.inFlight.map fun f =>
      { f with discarded := f.discarded || f.access.dropsAtStop } })
  let u := huntAll (t.withDev { t.dev with state := .stopping, stopLost := t.port.boardLost })
  each ran (fun k => runChanged k true) u

/-! ## Steps of LOADING (R23) -/

/-- Step 8 has ended, and the first scan begins (R23, R35, R113). -/
def beginFirstScan (s : State) : State :=
  let t := endPreFill s
  alterScan (fun x => { x with place := some (.counter .cells 0) })
    (t.withDev { t.dev with load := .firstScan })

/-- Step 8 ends when every pre-fill it asked for has ended (R113). -/
def checkPreFill (s : State) : State :=
  onlyIf (s.dev.load == .preFill && !s.cst.queue.any (·.preFill)) beginFirstScan s

/-- Steps 3 and 4, after the header of step 2 has been handed to the blocks (R23, R27, R97, R175). -/
def takeHeader (b : List Byte) (s : State) : State :=
  let h := headerSettings b
  let t := alterDpm (fun d => { d with lastSeen := headerHeartbeat b }) <|
    markDirty .device <|
    (s.withEru { s.eru with drawn := h.supplyBase, lastRead := h.supplyBase }).withHdr h
  if !headerTag b then failLoading .tag t
  else if !h.inRange then failLoading .range t
  else t.withDev { t.dev with load := .live }

/-- Step 5: the live configuration (R23, R28). -/
def loadLive (lead : Word32) (burst : List Byte) (again : Word32) (s : State) : State :=
  if cleanTake lead burst again then
    match liveVerdictOf burst with
    | .accepted => applyLoading (liveSettings burst) (countLive lead .accepted s)
    | .routing => failLoading .routing (countLive lead s.scan.liveVerdict s)
    | .range | .unset => failLoading .range (countLive lead s.scan.liveVerdict s)
  else failLoading .range s

/-- Step 7: the supply count, and then step 8 (R23, R98). -/
def loadSupply (count : Word32) (s : State) : State :=
  checkPreFill <| beginPreFill <|
    (s.withEru { s.eru with lastRead := count }).withDev { s.dev with load := .preFill }

/-! ## Places of a scan (R32, R33, R35) -/

/-- Group `g` has been visited: the next group follows, the first scan ends in RUNNING, and another scan
ends with its area's last group (R32, R35; log 6). -/
def groupDone (area : Area) (g : Nat) (s : State) : State :=
  match s.dev.state with
  | .loading =>
    if g < 20 then
      alterScan (fun x => { x with place := some (.counter (areaOfGroup (g + 1)) (g + 1)) }) s
    else enterRunning s
  | .running =>
    if lastGroup g then endScan area s
    else alterScan (fun x => { x with place := some (.counter area (g + 1)) }) s
  | .idle | .stopping => endScan area s

/-- The group counter read: the group is passed over, or its cells are visited (R32, R35). -/
def visitGroup (area : Area) (g : Nat) (v : Word32) (s : State) : State :=
  if tget s.scan.seen g none == some v then groupDone area g s
  else if s.dev.state == .loading && area == .answers then
    alterScan (fun x => { x with seen := tset x.seen g (some v), place := some (.seed g 0) }) s
  else alterScan (fun x => { x with place := some (.cell area g 0 v true) }) s

/-- The seen count of a group whose thirty-second take has ended, all 32 of them clean (R32). -/
def setSeen (g i : Nat) (counter : Word32) (clean : Bool) (s : State) : State :=
  onlyIf (decide (31 ≤ i) && clean)
    (alterScan fun x => { x with seen := tset x.seen g (some counter) }) s

/-- Cell `i` of group `g` has been taken: a group that all its takes found clean is seen (R32); the next
cell follows, or the group ends; in STOPPING the scan ends (R24). -/
def cellDone (area : Area) (g i : Nat) (counter : Word32) (clean : Bool) (s : State) : State :=
  let t := setSeen g i counter clean s
  if s.dev.state == .stopping then endScan area t
  else if i < 31 then
    alterScan (fun x => { x with place := some (.cell area g (i + 1) counter clean) }) t
  else groupDone area g t

/-- The scanner's sequence has failed in LOADING (R23, R35). -/
def scanFails (code : StartFault) (effect : State → State) (s : State) : State :=
  if s.dev.state == .loading then failLoading code s else effect s

/-! ## The commands that end the scanner's sequences -/

/-- HEADER_READ (R23). -/
def execHeaderRead (answer : BlockRead) (s : State) : Host.Outcome State Fault Refusal :=
  .next <|
    match s.port.inFlight with
    | some f =>
      match f.access with
      | .headerRead =>
        finishWith f answer.isSome
          (fun t => match answer with
            | some b => takeHeader b t
            | none => failLoading .bus t) s
      | _ => s
    | none => s

/-- LABEL_TABLE_READ (R54). -/
def execLabelTableRead (answer : BlockRead) (s : State) : Host.Outcome State Fault Refusal :=
  .next <|
    match s.port.inFlight with
    | some f =>
      match f.access with
      | .floorLabelRead =>
        finishWith f answer.isSome
          (fun t => match answer with
            | some b => (t.withClu { t.clu with floorLabels := labelEntries 4 256 b }).withDev
                { t.dev with load := .carLabels }
            | none => failLoading .labels t) s
      | .carLabelRead =>
        finishWith f answer.isSome
          (fun t => match answer with
            | some b => (t.withClu { t.clu with carLabels := labelEntries 2 64 b }).withDev
                { t.dev with load := .supplyCount }
            | none => failLoading .labels t) s
      | _ => s
    | none => s

/-- GROUP_COUNTER_READ (R32, R35, R36). -/
def execGroupCounterRead (answer : WordRead) (s : State) : Host.Outcome State Fault Refusal :=
  .next <|
    match s.port.inFlight with
    | some f =>
      match f.access with
      | .counterRead area g =>
        finishWith f answer.isSome
          (fun t => match answer with
            | some v => visitGroup area g v t
            | none => scanFails .bus (groupDone area g) t) s
      | _ => s
    | none => s

/-- The end of a cell take at its place (R30, R31, R36). -/
def finishCell (area : Area) (g i : Nat) (counter : Word32) (clean : Bool) (answer : TakeRead)
    (s : State) : State :=
  match answer with
  | .read lead burst again =>
    cellDone area g i counter (clean && cleanTake lead burst again)
      (takeCell area (g * 32 + i) lead burst again s)
  | .busError => scanFails .bus (cellDone area g i counter false) s

/-- CELL_TAKE (R30). -/
def execCellTake (answer : TakeRead) (s : State) : Host.Outcome State Fault Refusal :=
  .next <|
    match s.port.inFlight with
    | some f =>
      match f.access with
      | .cellTake _ _ =>
        finishWith f (answer != .busError)
          (fun t => match t.scan.place with
            | some (.cell area g i counter clean) => finishCell area g i counter clean answer t
            | _ => t) s
      | _ => s
    | none => s

/-- The seeding of answer cell `i` of group `g` (R35). -/
def seedCell (g i : Nat) (v : Word32) (s : State) : State :=
  let t := alterScan (fun x => { x with taken := tset x.taken (g * 32 + i) v }) s
  if i < 31 then alterScan (fun x => { x with place := some (.seed g (i + 1)) }) t
  else groupDone .answers g t

/-- ANSWER_SEED_READ (R35). -/
def execAnswerSeedRead (answer : WordRead) (s : State) : Host.Outcome State Fault Refusal :=
  .next <|
    match s.port.inFlight with
    | some f =>
      match f.access with
      | .seedRead _ =>
        finishWith f answer.isSome
          (fun t => match t.scan.place, answer with
            | some (.seed g i), some v => seedCell g i v t
            | some (.seed _ _), none => failLoading .bus t
            | _, _ => t) s
      | _ => s
    | none => s

/-- LIVE_TAKE (R28, R36). -/
def execLiveTake (answer : TakeRead) (s : State) : Host.Outcome State Fault Refusal :=
  .next <|
    match s.port.inFlight with
    | some f =>
      match f.access with
      | .liveTake =>
        finishWith f (answer != .busError)
          (fun t => match t.dev.state == .loading, answer with
            | true, .read lead burst again => loadLive lead burst again t
            | true, .busError => failLoading .bus t
            | false, .read lead burst again => endScan .live (takeLive lead burst again t)
            | false, .busError => endScan .live (wantLive t)) s
      | _ => s
    | none => s

/-- SUPPLY_COUNT_READ (R36, R98). -/
def execSupplyCountRead (answer : WordRead) (s : State) : Host.Outcome State Fault Refusal :=
  .next <|
    match s.port.inFlight with
    | some f =>
      match f.access with
      | .supplyRead =>
        finishWith f answer.isSome
          (fun t => match t.dev.state == .loading, answer with
            | true, some v => loadSupply v t
            | true, none => failLoading .bus t
            | false, some v => endScan .supply (t.withEru { t.eru with lastRead := v })
            | false, none => endScan .supply t) s
      | _ => s
    | none => s

/-! ## The commands of the fill engine and of the heartbeat reader -/

/-- The bus answered (R41). -/
def fillAnswered : FillRead → Bool
  | .read .. => true
  | .busError => false

/-- The end of a fill's sequence for its entry (R127, R128, R113). -/
def takeFill (e : FillEntry) (answer : FillRead) (s : State) : State :=
  if (s.slot e.slot).refetch then refetchEntry e s
  else match answer with
    | .busError => onlyIf e.preFill (preFillFaults e.item) (faultFill e none s)
    | .read _ length body =>
      if 1 ≤ length.toNat ∧ length.toNat ≤ 240 then
        completeFill e (padTo length.toNat body) s
      else onlyIf e.preFill (preFillFaults e.item) (faultFill e (some length.toNat) s)

/-- FILL (R127). -/
def execFill (answer : FillRead) (s : State) : Host.Outcome State Fault Refusal :=
  .next <|
    match s.port.inFlight with
    | some f =>
      match f.access with
      | .fill _ _ =>
        finishWith f (fillAnswered answer)
          (fun t => match startedEntry t.cst.queue with
            | some e => checkPreFill (takeFill e answer t)
            | none => t) s
      | _ => s
    | none => s

/-- HEARTBEAT_READ (R176). -/
def execHeartbeatRead (answer : WordRead) (s : State) : Host.Outcome State Fault Refusal :=
  .next <|
    match s.port.inFlight with
    | some f =>
      match f.access with
      | .heartbeatRead =>
        if f.discarded then endSequence answer.isSome s else takeCheck answer s
      | _ => s
    | none => s

/-! ## The end of STOPPING (R24) -/

/-- A mirror write holds the port. -/
def State.mirrorFlies (s : State) : Bool :=
  s.port.inFlight.any fun f =>
    match f.access with
    | .mirrorWrite _ => true
    | _ => false

/-- The routes have closed what they are to close (R24, R106). -/
def State.routesClosed (s : State) : Bool :=
  (tlist s.eru.routes).all fun x => x.stopped && x.closing.isNone

/-- Every record has been written (R24; log 8). -/
def State.mirrorWritten (s : State) : Bool := !(tlist s.mir.dirty).any id && !s.mirrorFlies

/-- The conditions of R24 hold together, and no cell take is in flight whose outcome R24 applies (log 9). -/
def State.stopped (s : State) : Bool :=
  s.dev.state == .stopping && s.allOff && !s.cellTakeFlies
    && (s.dev.stopLost || (s.routesClosed && s.mirrorWritten))

/-- STOPPING ends (R22, R24). -/
def endStopping (s : State) : State :=
  let t := setCause .stopped (enterIdle s)
  onlyIf t.win.runBit enterLoading t

/-- STOPPING_END (R24). -/
def execStoppingEnd (s : State) : Host.Outcome State Fault Refusal :=
  .next <| onlyIf s.stopped endStopping s

end Sys2Proof.Machine
end

