-- ==== Sys2Proof/Machine/Port.lean ====
section
/-! DEFINITION. The bus-master port (R40): which claimants wait, the sequence each would start, and the
command PORT_GRANT. -/

namespace Sys2Proof.Machine

/-- The claimants in the arbiter's cyclic order (R40). -/
def claimants : List Claimant := [.pageEngine, .fillEngine, .scanner, .heartbeatReader, .mirrorWriter]

def Claimant.index : Claimant → Nat
  | .pageEngine => 0 | .fillEngine => 1 | .scanner => 2 | .heartbeatReader => 3 | .mirrorWriter => 4

/-- The sequence of a scan's place (R32, R33, R35). -/
def ScanPlace.access : ScanPlace → Access
  | .counter area g => .counterRead area g
  | .cell area g i _ _ => .cellTake area (g * 32 + i)
  | .seed g i => .seedRead (g * 32 + i)
  | .live => .liveTake
  | .supply => .supplyRead

/-- The sequence the scanner has ready: a step of LOADING, or the next of its scan (R23, R32, R40). -/
def State.scannerAccess (s : State) : Option Access :=
  match s.dev.state, s.dev.load with
  | .running, _ => s.scan.place.map ScanPlace.access
  | .loading, .header => some .headerRead
  | .loading, .live => some .liveTake
  | .loading, .floorLabels => some .floorLabelRead
  | .loading, .carLabels => some .carLabelRead
  | .loading, .supplyCount => some .supplyRead
  | .loading, .firstScan => s.scan.place.map ScanPlace.access
  | .loading, .preFill | .loading, .outside | .idle, _ | .stopping, _ => none

/-- The offset and size of a cell on the Board (Board layout). -/
def cellPlace (cell : Nat) : Nat × Nat :=
  if cell < 512 then (0x1000 + 32 * cell, 32)
  else if cell < 640 then (0x5000 + 16 * (cell - 512), 16)
  else (0x5800 + 16 * (cell - 640), 16)

/-- A take: the lead count, the body and tail count as one burst, the lead count again (R29). -/
def State.takeOps (s : State) (offset size : Nat) : List BusOp :=
  [.read (s.boardAt offset) 4, .read (s.boardAt (offset + 4)) (size - 4), .read (s.boardAt offset) 4]

/-- The transfers of a scanner's sequence (Board layout; R32, R54). -/
def State.scannerOps (s : State) (a : Access) : List BusOp :=
  match a with
  | .headerRead => [.read (s.boardAt 0) 256]
  | .floorLabelRead => [.read s.hdr.floorLabelTable 1024]
  | .carLabelRead => [.read s.hdr.carLabelTable 128]
  | .counterRead _ g => [.read (s.boardAt (0x0800 + 4 * g)) 4]
  | .cellTake _ cell => s.takeOps (cellPlace cell).1 (cellPlace cell).2
  | .seedRead cell => [.read (s.boardAt (cellPlace cell).1) 4]
  | .liveTake => s.takeOps 0x0100 608
  | .supplyRead => [.read (s.boardAt 0x0900) 4]
  | .heartbeatRead => [.read (s.boardAt 32) 4]
  | .fill .. | .mirrorWrite _ | .pageDraw .. | .openWrite _ | .recordWrite _ | .closeWrite .. => []

/-- The address of an item's entry in the Content Directory (R121). -/
def State.directoryEntry (s : State) (item : Nat) : BitVec 64 :=
  s.hdr.contentDirectory + BitVec.ofNat 64 (8 * item)

/-- The sequence of a fill; its second transfer, the item body, is at the address and of the length that the
first one reads (R127). -/
def State.fillFlight (s : State) (e : FillEntry) : InFlight :=
  { access := .fill e.slot e.item, ops := [.read (s.directoryEntry e.item) 8], discarded := false }

/-- What a claimant's grant starts: the state after it, with its sequence; `none` where the claimant does not
wait. In IDLE none waits (log 26). -/
def startClaim (c : Claimant) (s : State) : Option (State × InFlight) :=
  if s.dev.state == .idle then none
  else match c with
    | .pageEngine =>
      match s.engineRoute with
      | some r =>
        some (s.withEru { s.eru with lastServed := r }, s.routeWork r ((s.rank r).getD 0))
      | none => none
    | .fillEngine =>
      match s.cst.queue with
      | e :: _ => some (startHead s, s.fillFlight e)
      | [] => none
    | .scanner =>
      s.scannerAccess.map fun a => (s, { access := a, ops := s.scannerOps a, discarded := false })
    | .heartbeatReader =>
      if s.dpm.checkPending then
        some (s, { access := .heartbeatRead, ops := s.scannerOps .heartbeatRead, discarded := false })
      else none
    | .mirrorWriter => s.nextDirty.map fun i => captureRecord i s

/-- The claimants after the one last granted, in cyclic order (R40). -/
def State.claimOrder (s : State) : List Claimant :=
  (List.range 5).filterMap fun k => claimants[(s.port.lastGranted.index + 1 + k) % 5]?

/-- The port given to a claimant with its sequence (R40). -/
def grantPort (c : Claimant) (f : InFlight) (s : State) : State :=
  s.withPort { s.port with inFlight := some f, lastGranted := c }

/-- The first waiting claimant of a list is granted the port (R40). -/
def grantFirst (order : List Claimant) (s : State) : State :=
  match order with
  | [] => s
  | c :: rest =>
    match startClaim c s with
    | some (t, f) => grantPort c f t
    | none => grantFirst rest s

/-- PORT_GRANT (R40). -/
def execPortGrant (s : State) : Host.Outcome State Fault Refusal :=
  .next <| onlyIf s.port.inFlight.isNone (grantFirst s.claimOrder) s

end Sys2Proof.Machine
end

