-- ==== Sys2Proof/Machine/Registers.lean ====
section
/-! DEFINITION. The host's writes of the register window and the two resets (R20 to R25, R179, R180). -/

namespace Sys2Proof.Machine

/-- A pin's level is the building's, and no reset changes it (R111; log 4). -/
def keepPins (old s : State) : State :=
  s.withOvr { s.ovr with
    lines := tbuild 4 fun k => { FireLine.initial with pin := (old.line k).pin } }

/-- What a reset does with the dirty set: each car record, now in its initial state, marks its mirror record
(R45), and the entry to IDLE empties the set (R25, R38; log 52). -/
def resetMarks (s : State) : State := emptyDirty (markCars s)

/-- POWER_ON_RESET (R25): the initial state, beside the levels of the pins and the model's own fields. -/
def execPowerOnReset (s : State) : Host.Outcome State Fault Refusal :=
  .next <| resetMarks <| keepPins s { State.reset with freeUsed := s.freeUsed, pending := s.pending }

/-- The condition after a soft reset (R25): as after power-on, but for the anchors, CAUSE_MASK, the write
counts, and the sequence in flight, which runs to its end with its result discarded. -/
def softReset (s : State) : State :=
  resetMarks <| keepPins s
    { State.reset with
      win := { s.win with runBit := false }
      mir := { Mirror.initial with carWrites := s.mir.carWrites, routeWrites := s.mir.routeWrites }
      port := { Port.initial with inFlight := (discardFlight s).port.inFlight }
      freeUsed := s.freeUsed, pending := s.pending }

/-- SOFT_RESET (R21, R25): the RUN bit of the same write is discarded. -/
def execSoftReset (_runBit : Bool) (s : State) : Host.Outcome State Fault Refusal :=
  .next (softReset s)

/-- RUN written from 0 to 1 (R22). -/
def raiseRunBit (s : State) : State :=
  match s.dev.state with
  | .idle => enterLoading s
  | .loading | .running | .stopping => s

/-- RUN written from 1 to 0 (R22). -/
def lowerRunBit (s : State) : State :=
  match s.dev.state with
  | .loading => setCause .stopped (enterIdle s)
  | .running => enterStopping s
  | .idle | .stopping => s

/-- RUN (R21, R22): a write that leaves RUN as it is starts nothing. -/
def execRun (runBit : Bool) (s : State) : Host.Outcome State Fault Refusal :=
  let t := s.withWin { s.win with runBit := runBit }
  .next (if runBit = s.win.runBit then t else if runBit then raiseRunBit t else lowerRunBit t)

/-- ANCHOR_LO_WRITE (R20): taken in IDLE; bits 15:0 are discarded. -/
def execAnchorLoWrite (value : Word32) (s : State) : Host.Outcome State Fault Refusal :=
  .next <| onlyIf (s.dev.state == .idle)
    (fun t => t.withWin { t.win with anchorLo := value &&& 0xFFFF0000 }) s

/-- ANCHOR_HI_WRITE (R20): taken in IDLE. -/
def execAnchorHiWrite (value : Word32) (s : State) : Host.Outcome State Fault Refusal :=
  .next <| onlyIf (s.dev.state == .idle) (fun t => t.withWin { t.win with anchorHi := value }) s

/-- CAUSE_WRITE (R179): each bit written as 1 is cleared. -/
def execCauseWrite (value : Word32) (s : State) : Host.Outcome State Fault Refusal :=
  .next (s.withCause (s.cause &&& ~~~(value.setWidth 15)))

/-- CAUSE_MASK_WRITE (R180): bits 31:15 are discarded. -/
def execCauseMaskWrite (value : Word32) (s : State) : Host.Outcome State Fault Refusal :=
  .next (s.withWin { s.win with mask := value.setWidth 15 })

/-- REGISTER_WRITE_OTHER (R20): completed on the bus, without effect. -/
def execRegisterWriteOther (_offset _width : Nat) (_value : Word32) (s : State) :
    Host.Outcome State Fault Refusal := .next s

end Sys2Proof.Machine
end

