-- ==== Sys2Proof/Machine/Dispatch.lean ====
section
/-! DEFINITION. One arm for each command: its meaning. -/

namespace Sys2Proof.Machine

/-- The effect of a command on everything but the queue. -/
def exec (i : Instr) (s : State) : Host.Outcome State Fault Refusal :=
  match i with
  | .powerOnReset => Sys2Proof.Machine.execPowerOnReset s
  | .softReset runBit => Sys2Proof.Machine.execSoftReset runBit s
  | .run runBit => Sys2Proof.Machine.execRun runBit s
  | .anchorLoWrite value => Sys2Proof.Machine.execAnchorLoWrite value s
  | .anchorHiWrite value => Sys2Proof.Machine.execAnchorHiWrite value s
  | .nudgeCells => Sys2Proof.Machine.execNudgeCells s
  | .nudgeAnswers => Sys2Proof.Machine.execNudgeAnswers s
  | .nudgeOverrides => Sys2Proof.Machine.execNudgeOverrides s
  | .nudgeLive => Sys2Proof.Machine.execNudgeLive s
  | .nudgeSupply => Sys2Proof.Machine.execNudgeSupply s
  | .nudgeFlush => Sys2Proof.Machine.execNudgeFlush s
  | .causeWrite value => Sys2Proof.Machine.execCauseWrite value s
  | .causeMaskWrite value => Sys2Proof.Machine.execCauseMaskWrite value s
  | .registerWriteOther offset width value => Sys2Proof.Machine.execRegisterWriteOther offset width value s
  | .stoppingEnd => Sys2Proof.Machine.execStoppingEnd s
  | .portGrant => Sys2Proof.Machine.execPortGrant s
  | .headerRead answer => Sys2Proof.Machine.execHeaderRead answer s
  | .labelTableRead answer => Sys2Proof.Machine.execLabelTableRead answer s
  | .groupCounterRead answer => Sys2Proof.Machine.execGroupCounterRead answer s
  | .cellTake answer => Sys2Proof.Machine.execCellTake answer s
  | .answerSeedRead answer => Sys2Proof.Machine.execAnswerSeedRead answer s
  | .liveTake answer => Sys2Proof.Machine.execLiveTake answer s
  | .supplyCountRead answer => Sys2Proof.Machine.execSupplyCountRead answer s
  | .scanIntervalExpiry => Sys2Proof.Machine.execScanIntervalExpiry s
  | .supplyScanRequest => Sys2Proof.Machine.execSupplyScanRequest s
  | .mirrorWrite ok => Sys2Proof.Machine.execMirrorWrite ok s
  | .pageDraw answer => Sys2Proof.Machine.execPageDraw answer s
  | .openWrite ok => Sys2Proof.Machine.execOpenWrite ok s
  | .recordWrite ok => Sys2Proof.Machine.execRecordWrite ok s
  | .closeWrite ok => Sys2Proof.Machine.execCloseWrite ok s
  | .flushAgeExpiry route => Sys2Proof.Machine.execFlushAgeExpiry route s
  | .routeStopPoint route => Sys2Proof.Machine.execRouteStopPoint route s
  | .presenceCheckExpiry => Sys2Proof.Machine.execPresenceCheckExpiry s
  | .heartbeatRead answer => Sys2Proof.Machine.execHeartbeatRead answer s
  | .carTelegram link chars => Sys2Proof.Machine.execCarTelegram link chars s
  | .carTelegramBroken link char => Sys2Proof.Machine.execCarTelegramBroken link char s
  | .carStaleExpiry car => Sys2Proof.Machine.execCarStaleExpiry car s
  | .carLostExpiry car => Sys2Proof.Machine.execCarLostExpiry car s
  | .lanternTimeExpiry display => Sys2Proof.Machine.execLanternTimeExpiry display s
  | .expectationExpiry display => Sys2Proof.Machine.execExpectationExpiry display s
  | .entryTimeoutExpiry slot => Sys2Proof.Machine.execEntryTimeoutExpiry slot s
  | .answerTimeoutExpiry slot => Sys2Proof.Machine.execAnswerTimeoutExpiry slot s
  | .holdTimeExpiry slot => Sys2Proof.Machine.execHoldTimeExpiry slot s
  | .fireLine line => Sys2Proof.Machine.execFireLine line s
  | .recompose display => Sys2Proof.Machine.execRecompose display s
  | .fill answer => Sys2Proof.Machine.execFill answer s
  | .quarantineExpiry item => Sys2Proof.Machine.execQuarantineExpiry item s
  | .supplyFault string => Sys2Proof.Machine.execSupplyFault string s
  | .settleExpiry string => Sys2Proof.Machine.execSettleExpiry string s
  | .wakeSent string => Sys2Proof.Machine.execWakeSent string s
  | .wakeTimeExpiry string => Sys2Proof.Machine.execWakeTimeExpiry string s
  | .sleepSent string => Sys2Proof.Machine.execSleepSent string s
  | .sync string => Sys2Proof.Machine.execSync string s
  | .showPlan string => Sys2Proof.Machine.execShowPlan string s
  | .poll string => Sys2Proof.Machine.execPoll string s
  | .enumerate string => Sys2Proof.Machine.execEnumerate string s
  | .telegramSent string => Sys2Proof.Machine.execTelegramSent string s
  | .panelReply string chars => Sys2Proof.Machine.execPanelReply string chars s
  | .replyTimeout string => Sys2Proof.Machine.execReplyTimeout string s
  | .sweepIntervalExpiry string => Sys2Proof.Machine.execSweepIntervalExpiry string s
  | .faultHoldExpiry string => Sys2Proof.Machine.execFaultHoldExpiry string s
  | .cadenceTick channel => Sys2Proof.Machine.execCadenceTick channel s
  | .cadenceUnderflow channel => Sys2Proof.Machine.execCadenceUnderflow channel s
  | .firePinChange line asserted => Sys2Proof.Machine.execFirePinChange line asserted s

end Sys2Proof.Machine
end

