-- ==== Sys2Proof/Machine/Step.lean ====
section
/-! DEFINITION. One step of the hub: the command at the front of the queue, or a device tick. -/

namespace Sys2Proof.Machine

/-- Takes the command at the front of the queue and runs it with the queue's rest; with no command waiting
a device tick passes (log 2). -/
def step (s : State) : Host.Outcome State Fault Refusal :=
  match s.pending with
  | [] => .next (deviceTick s)
  | c :: rest => exec c (s.withPending rest)

/-- The state with the command that a word spells put at the front of the queue; no word spells one. -/
def State.withFetchWord (s : State) (nbits w : Nat) : State :=
  match decodeTableWord nbits w with
  | some c => s.withPending (c :: s.pending)
  | none => s

end Sys2Proof.Machine
end

