-- ==== Sys2Proof/Safety.lean ====
section
/-! DEFINITION. What the statements about the hub are made of: the blocks of the state, what it means that
a command keeps to some of them, and the conditions that every step keeps. -/

namespace Sys2Proof.Machine

/-- The fields of the state, block by block. -/
inductive Block where
  | win | cause | dev | hdr | port | scan | mir | ddir | cmp | clu | drq | eru | ovr | cst | stc | cdt
  | dpm | freeUsed | pending
  deriving DecidableEq, Repr

/-- A block stands in `t` as it stood in `s`. -/
def Block.same (b : Block) (s t : State) : Prop :=
  match b with
  | .win => t.win = s.win
  | .cause => t.cause = s.cause
  | .dev => t.dev = s.dev
  | .hdr => t.hdr = s.hdr
  | .port => t.port = s.port
  | .scan => t.scan = s.scan
  | .mir => t.mir = s.mir
  | .ddir => t.ddir = s.ddir
  | .cmp => t.cmp = s.cmp
  | .clu => t.clu = s.clu
  | .drq => t.drq = s.drq
  | .eru => t.eru = s.eru
  | .ovr => t.ovr = s.ovr
  | .cst => t.cst = s.cst
  | .stc => t.stc = s.stc
  | .cdt => t.cdt = s.cdt
  | .dpm => t.dpm = s.dpm
  | .freeUsed => t.freeUsed = s.freeUsed
  | .pending => t.pending = s.pending

/-- Every block but those listed stands as it stood. -/
def OnlyIn (bs : List Block) (s t : State) : Prop := ∀ b, b ∉ bs → b.same s t

/-- The blocks an offered event may change (R87, R93). -/
def offerBlocks : List Block := [.eru, .cause, .mir]

/-- The blocks a change of a keypad session may change (R81, R85, R87). -/
def sessionBlocks : List Block := [.drq, .cmp] ++ offerBlocks

/-- The blocks a report or change of a panel or string may change (R139, R154). -/
def stringBlocks : List Block := .stc :: sessionBlocks

/-- The blocks a zone's forming may change (R116). -/
def zoneBlocks : List Block := .ovr :: stringBlocks

/-- The blocks a change of presence may change (R178). -/
def presenceBlocks : List Block := [.dpm, .clu] ++ zoneBlocks

/-- The blocks the end of any access sequence may change (R41, R42). -/
def sequenceBlocks : List Block := [.port, .dev] ++ presenceBlocks

/-- The blocks an accepted display take or a refused type may change (R5, R7). -/
def displayBlocks : List Block := [.ddir, .clu] ++ stringBlocks

/-- The blocks that a command may change; it leaves every other as it was. -/
def touches : Instr → List Block
  | .powerOnReset | .softReset _ =>
    [.win, .cause, .dev, .hdr, .port, .scan, .mir, .ddir, .cmp, .clu, .drq, .eru, .ovr, .cst, .stc, .cdt,
     .dpm]
  | .run _ =>
    [.win, .cause, .dev, .port, .scan, .mir, .ddir, .cmp, .clu, .drq, .eru, .ovr, .cst, .stc, .cdt, .dpm]
  | .anchorLoWrite _ | .anchorHiWrite _ | .causeMaskWrite _ => [.win]
  | .causeWrite _ => [.cause]
  | .registerWriteOther _ _ _ => []
  | .nudgeCells | .nudgeAnswers | .nudgeOverrides | .nudgeLive | .nudgeSupply | .scanIntervalExpiry =>
    [.scan]
  | .supplyScanRequest => [.scan, .eru]
  | .nudgeFlush | .flushAgeExpiry _ => [.eru]
  | .routeStopPoint _ => offerBlocks
  | .stoppingEnd =>
    [.cause, .dev, .port, .scan, .mir, .ddir, .cmp, .clu, .drq, .eru, .ovr, .cst, .stc, .cdt, .dpm]
  | .portGrant => [.port, .mir, .eru, .cst]
  | .headerRead _ => [.hdr, .scan, .cst] ++ sequenceBlocks
  | .labelTableRead _ => [.scan, .cst] ++ sequenceBlocks
  | .groupCounterRead _ | .answerSeedRead _ => [.scan, .cst] ++ sequenceBlocks
  | .cellTake _ => [.scan, .cst, .ddir, .freeUsed] ++ sequenceBlocks
  | .liveTake _ => [.scan, .cst, .cdt] ++ sequenceBlocks
  | .supplyCountRead _ => [.scan, .cst] ++ sequenceBlocks
  | .mirrorWrite _ | .pageDraw _ | .openWrite _ | .recordWrite _ | .closeWrite _ | .heartbeatRead _ =>
    sequenceBlocks
  | .fill _ => [.scan, .cst] ++ sequenceBlocks
  | .presenceCheckExpiry => [.dpm]
  | .carTelegram _ _ | .carTelegramBroken _ _ | .carLostExpiry _ => [.clu, .cmp] ++ offerBlocks
  | .carStaleExpiry _ => [.clu, .cmp, .mir]
  | .lanternTimeExpiry _ | .expectationExpiry _ => [.clu, .cmp]
  | .entryTimeoutExpiry _ | .answerTimeoutExpiry _ | .holdTimeExpiry _ => [.drq, .cmp, .mir]
  | .fireLine _ => zoneBlocks
  | .firePinChange _ _ => [.ovr]
  | .recompose _ => [.cmp, .cst, .mir, .stc]
  | .quarantineExpiry _ => [.cst, .cmp]
  | .supplyFault _ | .sleepSent _ | .faultHoldExpiry _ => stringBlocks
  | .settleExpiry _ | .wakeSent _ | .wakeTimeExpiry _ | .telegramSent _ => .stc :: offerBlocks
  | .sweepIntervalExpiry _ => [.mir, .stc]
  | .sync _ => [.stc]
  | .showPlan _ | .poll _ | .enumerate _ => [.stc, .cmp]
  | .panelReply _ _ | .replyTimeout _ => displayBlocks
  | .cadenceTick _ | .cadenceUnderflow _ => [.cdt, .stc]

/-! ## Access sequences and the commands that end them -/

/-- The port holds the sequence of an access, its result not to be discarded. -/
def State.flies (s : State) (a : Access) : Prop :=
  ∃ ops, s.port.inFlight = some { access := a, ops := ops, discarded := false }

/-- A command is the end of an access sequence (R40). -/
def commandEnds : Instr → Access → Bool
  | .headerRead _, .headerRead | .labelTableRead _, .floorLabelRead | .labelTableRead _, .carLabelRead
  | .groupCounterRead _, .counterRead _ _ | .cellTake _, .cellTake _ _ | .answerSeedRead _, .seedRead _
  | .liveTake _, .liveTake | .supplyCountRead _, .supplyRead | .heartbeatRead _, .heartbeatRead
  | .fill _, .fill _ _ | .mirrorWrite _, .mirrorWrite _ | .pageDraw _, .pageDraw _ _
  | .openWrite _, .openWrite _ | .recordWrite _, .recordWrite _
  | .closeWrite _, .closeWrite _ _ _ => true
  | _, _ => false

/-- A command that brings a bus answer, and whether that answer is a success (R41). -/
def busAnswer : Instr → Option Bool
  | .headerRead x => some x.isSome
  | .labelTableRead x => some x.isSome
  | .groupCounterRead x => some x.isSome
  | .cellTake x => some (x != .busError)
  | .answerSeedRead x => some x.isSome
  | .liveTake x => some (x != .busError)
  | .supplyCountRead x => some x.isSome
  | .heartbeatRead x => some x.isSome
  | .fill x => some (fillAnswered x)
  | .mirrorWrite ok => some ok
  | .pageDraw x => some x.isSome
  | .openWrite ok => some ok
  | .recordWrite ok => some ok
  | .closeWrite ok => some ok
  | _ => none

/-- How far area `b` stands behind area `a` in the cyclic order of R33: 0 for the one after it. -/
def areaDistance (a b : Area) : Nat := (b.index + 4 - a.index) % 5

/-- How far claimant `b` stands behind claimant `a` in the cyclic order of R40: 0 for the one after it. -/
def claimantDistance (a b : Claimant) : Nat := (b.index + 4 - a.index) % 5

/-- A route can take an event: enabled, fewer than 16 events staged, and not yet at its stop point (R90,
R106). -/
def Route.takes (x : Route) : Prop := x.enabled = true ∧ x.staging.length < 16 ∧ x.stopped = false

/-- `t` is `s` with one counted refusal against route `r` (R93). -/
def RefusalCounted (r : Nat) (s t : State) : Prop :=
  OnlyIn [.eru, .mir, .cause] s t ∧ t.cause = s.cause ||| 0x0100
    ∧ tget t.mir.dirty (1392 + r) false = true ∧ t.eru.table = s.eru.table
    ∧ t.eru.drawn = s.eru.drawn ∧ t.eru.lastRead = s.eru.lastRead
    ∧ (∀ q, q ≠ r → t.route q = s.route q)
    ∧ t.route r = { s.route r with
        dropped := min 65535 ((s.route r).dropped + 1),
        droppedTotal := min 65535 ((s.route r).droppedTotal + 1) }

/-- `t` is `s` with an event accepted into route `r` at the tail of its queue (R96). -/
def EventAccepted (r : Nat) (e : Event) (s t : State) : Prop :=
  t.route r = { s.route r with staging := (s.route r).staging ++ [e] }
    ∧ (∀ q, q ≠ r → t.route q = s.route q) ∧ OnlyIn [.eru] s t

/-- How far route `r` stands behind route `c` in cyclic order: 0 for the one after it (R91, R99). -/
def routeDistance (c r : Nat) : Nat := (r + 7 - c) % 8

/-- The characters of a whole car telegram: the header with its marker, six data characters and the check
(formats of file 03). -/
def carTelegramChars (header : Byte) (data : List Byte) : List LineChar :=
  { data := header, marker := true, stop := true } ::
    (data ++ [crc8 (header :: data)]).map fun b => { data := b, marker := false, stop := true }

/-- The car id that a link and a header form (R44). -/
def carOf (link : Fin 8) (header : Byte) : Nat := link.val * 8 + header.toNat % 8

/-! ## What an operation that several commands share leaves -/

/-- `t` holds the events and cause bits that `u` holds: no event was offered between them (R87, R93). -/
def SameEvents (u t : State) : Prop := t.eru = u.eru ∧ t.cause = u.cause

/-- `u` after the STRING_STATE of a string that goes from `old` to `new`; a string that stays in its state offers
none (R139). -/
def stringTold (k : Nat) (old new : StringState) (faults : Nat) (u : State) : State :=
  if new = old then u
  else offerClass .stringState k
    [BitVec.ofNat 8 old.code, BitVec.ofNat 8 new.code, BitVec.ofNat 8 faults] u

/-- `t` is `u` once the scan has gone on after cell `i` of group `g`, its outcome taken: to the next cell, after the
thirty-second to the next group, and after the area's last to the scan's end; in STOPPING the scan ends, and in
LOADING the first scan goes on through all 21 groups and ends in RUNNING (R24, R32, R33, R35; the first scan's order
is log 6's). -/
def ScanGoesOn (area : Area) (g i : Nat) (counter : Word32) (clean : Bool) (u t : State) : Prop :=
  let goesTo (p : ScanPlace) : Prop := t = u.withScan { u.scan with place := some p }
  (u.dev.state = .stopping → t = endScan area u)
    ∧ (u.dev.state = .running ∨ u.dev.state = .loading → i < 31 →
        goesTo (.cell area g (i + 1) counter clean))
    ∧ (u.dev.state = .running → i = 31 →
        if g = 15 ∨ g = 19 ∨ g = 20 then t = endScan area u else goesTo (.counter area (g + 1)))
    ∧ (u.dev.state = .loading → i = 31 →
        if g < 20 then
          goesTo (.counter (if g < 15 then .cells else if g < 19 then .answers else .overrides) (g + 1))
        else t = enterRunning u)

/-- `t` is `s` brought to rest at its entry to IDLE, beside the state and step themselves: the scanner without
areas asked for, scan or timer, every receiver in HUNT, the sequence in flight to be discarded, the dirty set
empty, no fill entry left, with the slot of a FILL EMPTY and that of a REFILL as it was but for refetch, and the
check timer stopped with no check pending (R22, R38, R43, R137, R176; the scanner's rest is log 9's). -/
def EntersIdle (s t : State) : Prop :=
  t.dev.state = .idle ∧ t.dev.load = .outside
  ∧ t.port = { s.port with inFlight := s.port.inFlight.map fun f => { f with discarded := true } }
  ∧ t.scan = { s.scan with areas := t.scan.areas, place := none, timer := none, liveRetry := false }
  ∧ (∀ a, t.scan.area a = { phase := .idle, rescan := false })
  ∧ t.mir = { s.mir with dirty := t.mir.dirty } ∧ (∀ i, tget t.mir.dirty i false = false)
  ∧ t.clu = { s.clu with links := t.clu.links }
  ∧ (∀ l, t.link l = { s.link l with receiver := .hunt })
  ∧ t.cst = { s.cst with slots := t.cst.slots, queue := [] }
  ∧ (∀ i, (∀ e ∈ s.cst.queue, e.slot ≠ i) → t.slot i = s.slot i)
  ∧ (∀ e ∈ s.cst.queue, e.refill = false → t.slot e.slot = Slot.initial)
  ∧ (∀ e ∈ s.cst.queue, (∀ x ∈ s.cst.queue, x.slot = e.slot → x.refill = true) →
      t.slot e.slot = { s.slot e.slot with refetch := false })
  ∧ t.dpm = { s.dpm with timer := none, checkPending := false }

/-- `t` is `s` after a step of LOADING has failed: IDLE, with the start-fault code and the START_FAULT cause bit
(R22, R23). -/
def LoadingFails (code : StartFault) (s t : State) : Prop :=
  EntersIdle s t ∧ t.dev = { s.dev with state := .idle, load := .outside, startFault := code }
  ∧ t.cause = s.cause ||| 0x2000 ∧ OnlyIn [.cause, .dev, .port, .scan, .mir, .clu, .cst, .dpm] s t

/-- What step 8 of LOADING leaves at its end: the substituted flags copied into the device record, which is dirty,
the zones of asserted lines with the item of their lowest line, and the first scan at its first group (R113,
R115; its first group is log 6's). -/
def StepEightEnded (t : State) : Prop :=
  t.dev.load = .firstScan ∧ t.scan.place = some (.counter .cells 0)
  ∧ (∀ k, k < 4 → tget t.ovr.flags k false = (t.line k).substituted)
  ∧ tget t.mir.dirty 1400 false = true
  ∧ ∀ z l rest, z < 32 → (t.zone z).sources = l :: rest →
      (t.zone z).priority = .evacuate ∧ (t.zone z).item = some (t.line l).resolved

/-- A session after the end of what it waited for, if it was WAITING: its ticket retired as WITHDRAWN with a reason
(R79). -/
def Session.withdrawnFor (why : Withdrawal) (x : Session) : Session :=
  if x.state = .waiting then
    { x with retiredTicket := x.ticket, retiredRoute := x.route, retiredKind := .withdrawn,
             withdrawal := why, ticket := 0, route := none, redirected := false }
  else x

/-- A session in a state in which it holds no digits, no flag, no destination, no answer and no timer (R66, R81). -/
def Session.emptied (state : SessionState) (x : Session) : Session :=
  { x with state := state, digits := [], access := false, destination := none, car := 0,
           deck := .lower, refusal := .unset, fallback := .unset, timer := none }

/-- A lock window of `ws` that is valid covers an item (R113, R130). -/
def Covers (ws : Vector LockWindow 4) (item : Nat) : Prop :=
  ∃ j, j < 4 ∧ (tget ws j LockWindow.initial).valid = true
    ∧ BitVec.ofNat 16 item &&& (tget ws j LockWindow.initial).mask
      = (tget ws j LockWindow.initial).base &&& (tget ws j LockWindow.initial).mask

/-- A BOUND display whose record names a zone. -/
def State.inZone (s : State) (z d : Nat) : Prop := (s.display d).status = .bound ∧ (s.display d).zone = z

/-- From `s` to `t` the four notices of a change of zone `z`'s effective override from priority `old` to `new`
have been made: where EVACUATE is raised or lowered, the EVAC cause of the zone's bound sessions is set or
cleared, in ascending slots (log 43), and a WAITING one cancels as `setBlockCause` does; every BOUND display of
the zone awaits recomposition, its plan and stamp as they stand; and in RUNNING their panels are marked urgent,
as far as each string's state, schedule and list let it (R81, R116, R117, R150). -/
def ZoneNotified (z : Nat) (old new : Priority) (s t : State) : Prop :=
  let members := (List.range 128).filter fun n =>
    (s.session n).bound && (s.display (s.session n).display).zone == z
  let raised : Prop := old ≠ .evacuate ∧ new = .evacuate
  let lowered : Prop := old = .evacuate ∧ new ≠ .evacuate
  let told (u : State) : Prop := t.drq = u.drq ∧ t.eru = u.eru ∧ t.cause = u.cause
  (raised → told (members.foldl (fun u n => setBlockCause .evac n u) s)
    ∧ ∀ n ∈ members, t.session n = (setBlockCause .evac n s).session n ∧ (t.session n).evac = true)
  ∧ (lowered → told (members.foldl (fun u n => clearBlockCause .evac n u) s)
    ∧ ∀ n ∈ members, t.session n = (clearBlockCause .evac n s).session n ∧ (t.session n).evac = false)
  ∧ (¬ raised → ¬ lowered → told s)
  ∧ (∀ n, n ∉ members → t.session n = s.session n)
  ∧ (∀ d, s.inZone z d → (t.comp d).asked ≠ none
      ∧ t.comp d = { s.comp d with asked := (t.comp d).asked }
      ∧ ∀ why, (s.comp d).asked = some why → (t.comp d).asked = some why)
  ∧ (∀ d, ¬ s.inZone z d → t.comp d = s.comp d)
  ∧ t.stc.panels = s.stc.panels ∧ (s.dev.state ≠ .running → t.stc = s.stc)
  ∧ (∀ k, ∃ added, t.string k = { s.string k with urgent := (s.string k).urgent ++ added }
      ∧ ∀ a ∈ added, ∃ d, s.inZone z d ∧ (s.display d).string = k ∧ (s.display d).address = a)
  ∧ (s.dev.state = .running → ∀ d, s.inZone z d →
      let r := s.display d
      let x := s.string r.string
      x.state = .running → r.address ∈ x.schedule →
      (s.panel (r.string * 32 + r.address)).health ≠ .offline →
      r.address ∈ (t.string r.string).urgent ∨ 8 ≤ (t.string r.string).urgent.length)

/-- The string record of a string that enters PARKING: its SLEEP broadcast begins (R143). -/
def PanelString.parked (y : PanelString) : PanelString :=
  { y with state := .parking, settle := none, wake := none, sweepTimer := none, parkOwed := false,
           line := .sending .sleep (telegram 0 .sleep 0 []) none }

/-- The string record after a sweep has ended and been counted (R147). -/
def PanelString.swept (y : PanelString) : PanelString :=
  { y with sweep := none, completed := y.completed + 1 }

/-- The string record after a sweep has started, `offline` the addresses whose panels are OFFLINE; a sweep with no
slots ends at its start (R146, R147; the sweep number wraps, log 57). -/
def PanelString.sweeping (offline : Nat → Bool) (y : PanelString) : PanelString :=
  let number := y.sweepNumber + 1
  let probe := number.toNat % y.settings.probeInterval == 0
  let slots := (y.schedule.filter fun a => probe || !offline a).map fun a =>
    ({ address := a, status := .ready } : SweepSlot)
  let begun : PanelString :=
    { y with sweepNumber := number, sweepTimer := some y.settings.sweepInterval, nextOwed := false,
             sweep := some { slots := slots, probe := probe, halt := y.settings.halt } }
  if slots = [] then begun.swept else begun

/-- What string `k` is in `t` once its line has become free with its record at `y`, the panels as `t` has them. A
sweep with a slot that is ACTIVE, or READY and not to be passed over, goes on, with READY slots of OFFLINE panels
SKIPPED up to the next one to visit; another ends and is counted, and one that an overrun owes starts; a string in
DRAINING without a sweep parks; and in ENUMERATING a pass with no address left completes in RUNNING with fault
count 0, SYNC-pending and its first sweep, and one that the string's run has left is given up for PARKING (R141,
R143, R147, R148; all in one step by log 38). -/
def LineFreed (k : Nat) (y : PanelString) (t : State) : Prop :=
  let offline (a : Nat) : Bool := (t.panel (k * 32 + a)).health == .offline
  let takes : Prop := y.state = .draining
    ∨ y.state = .running ∧ y.syncPending = false ∧ y.urgent = []
  let passed (w : Sweep) (l : SweepSlot) : Prop :=
    takes ∧ w.probe = false ∧ l.status = .ready ∧ offline l.address = true
  let going (w : Sweep) : Prop :=
    ∃ l ∈ w.slots, l.status = .active ∨ l.status = .ready ∧ ¬ passed w l
  (∀ w, y.sweep = some w → going w → y.state ≠ .enumerating →
      ∃ slots, t.string k = { y with sweep := some { w with slots := slots } }
        ∧ slots.length = w.slots.length
        ∧ ∀ (i : Nat) (l : SweepSlot), w.slots[i]? = some l →
            let last : Prop := ∀ (j : Nat) (m : SweepSlot),
              j < i → w.slots[j]? = some m → m.status = .ready → passed w m
            (passed w l ∧ last → slots[i]? = some { l with status := .skipped })
            ∧ (¬ (passed w l ∧ last) → slots[i]? = some l))
  ∧ (∀ w, y.sweep = some w → ¬ going w →
      (y.state = .running → y.nextOwed = false → t.string k = y.swept)
      ∧ (y.state = .running → y.nextOwed = true → t.string k = y.swept.sweeping offline)
      ∧ (y.state = .draining → t.string k = y.swept.parked))
  ∧ (y.sweep = none →
      (y.state = .draining → t.string k = y.parked)
      ∧ (y.state = .enumerating → y.parkOwed = true → t.string k = y.parked)
      ∧ (y.state = .enumerating → y.parkOwed = false → (∀ a ∈ y.schedule, a ≤ y.visited) →
          t.string k = ({ y with state := .running, faults := 0, sweepNumber := 0,
                                 syncPending := true } : PanelString).sweeping offline)
      ∧ (y.state = .enumerating → y.parkOwed = false → (∃ a ∈ y.schedule, y.visited < a) →
          t.string k = y)
      ∧ (y.state ≠ .draining → y.state ≠ .enumerating → t.string k = y))

/-- What is kept for a display once recomposition has been asked of it for a reason, if there is one, `bound` its
standing: plan, stamp and wait stand, and an ask that stands already keeps its reason (R9; log 12). -/
def Composition.askedFor (bound : Bool) (why : Option Ask) (c : Composition) : Composition :=
  if bound then { c with asked := c.asked.or why } else c

/-- `t` keeps for every display what `s` keeps, but for the recomposition asked for the reasons `why` gives (R9). -/
def RecompositionAsked (why : Nat → Option Ask) (s t : State) : Prop :=
  ∀ d, t.comp d = (s.comp d).askedFor (s.isBound d) (why d)

/-- The ask of display `d`'s lantern, where its state, expected count or arrival direction has changed from `s` to `t`
(R55, R10). -/
def lanternAsk (s t : State) (d : Nat) : Option Ask :=
  let shown (x : State) := (x.lantern d).map fun l => (l.state, l.expected, l.direction)
  if shown t = shown s then none else some { urgent := true, fill := false }

/-- The ask of a changed car record: of the CAR_POSITION displays bound to the car and the LOBBY_OVERVIEW displays
that list it (R45, R10). -/
def carAsk (car : Nat) (s : State) (d : Nat) : Option Ask :=
  let shows : Bool := match (s.display d).binding with
    | .carPosition c _ => c == car
    | .lobbyOverview cars => cars.contains car
    | _ => false
  if shows then some { urgent := false, fill := false } else none

/-- The slots of a sweep after a visit of address `a` has ended with a status: the ACTIVE slot takes it, and after
a failure HALT makes every READY slot SKIPPED, while SKIP leaves them (R148, R149). -/
def Sweep.ended (a : Nat) (status : SlotStatus) (w : Sweep) : Sweep :=
  { w with slots := w.slots.map fun l =>
      if l.address = a ∧ l.status = .active then { l with status := status }
      else if w.halt = true ∧ status ≠ .good ∧ l.status = .ready then { l with status := .skipped }
      else l }

/-! ## Conditions that every step keeps -/

/-- Every routing entry has passed the check of R28, and its cursor names a route. -/
def routingValid (s : State) : Prop :=
  ∀ k, k < 40 → ((s.entry k).mode = .single → (s.entry k).target < 8)
    ∧ ((s.entry k).mode = .rotate → (s.entry k).mask ≠ 0) ∧ (s.entry k).cursor < 8

/-- Bits 15:0 of ANCHOR_LO read 0 (R20). -/
def anchorAligned (s : State) : Prop := s.win.anchorLo &&& 0x0000FFFF = 0

/-- While presence is not ATTACHED, no keypad session is WAITING (R82). -/
def sessionsNeedPresence (s : State) : Prop :=
  s.dpm.presence ≠ .attached → ∀ n, (s.session n).state ≠ .waiting

/-- The staging queues, the fill queue, the bad-id list and the urgent lists keep to their sizes, and no
address stands twice on an urgent list (R96, R126, R129, R150). -/
def queuesBounded (s : State) : Prop :=
  (∀ r, (s.route r).staging.length ≤ 16) ∧ s.cst.queue.length ≤ 8 ∧ s.cst.badIds.length ≤ 8
    ∧ ∀ k, (s.string k).urgent.length ≤ 8 ∧ (s.string k).urgent.Nodup

/-- A WAITING session holds a ticket from 1 to 65,535, no two hold one ticket, and a session that is not
WAITING holds none (R70, R79, R86). -/
def ticketLaw (s : State) : Prop :=
  s.drq.lastTicket < 65536
    ∧ (∀ n, (s.session n).ticket < 65536
        ∧ ((s.session n).state = .waiting ↔ (s.session n).ticket ≠ 0))
    ∧ ∀ n m, (s.session n).ticket ≠ 0 → (s.session n).ticket = (s.session m).ticket → n = m

end Sys2Proof.Machine
end

