-- ==== Sys2Proof/Certificates/Slice0/Obligations.lean ====
section
/-! DEFINITION. The statements about the hub, after the numbered rules of the spec. -/

open Sys2Proof Sys2Proof.Machine

/-! ## The step and the frame -/

/-- The command at the front of the queue runs on the state with the queue's rest. -/
def Obligations.StepRunsFrontCommand : Prop :=
  ∀ (c : Instr) (rest : List Instr) (s : State),
    step (s.withPending (c :: rest)) = exec c (s.withPending rest)

/-- On an empty queue one device tick passes (DESIGN CHOICE, log 2): the device time rises by 1 modulo 2^32 (R22)
and no command's effect happens. In RUNNING the scan interval, the request hold, the lantern times and the session
timers come 1 ms nearer, and nothing else of the scanner, the routes, the cars, the lanterns and the sessions
moves; the check timer runs in RUNNING and STOPPING, quarantine times in every state but IDLE, and the strings'
timers always; each fire pin is sampled, the fiftieth differing sample in a row making the change due (log 23);
and a channel changes in the ticks it owes alone, one more at a tick of its source where channels receive ticks
and it governs a timer, none while it stands (log 22) (R34, R55, R73, R98, R111, R129, R147, R168, R172, R176). -/
def Obligations.EmptyQueuePassesOneTick : Prop :=
  ∀ s : State, s.pending = [] →
    ∃ t, step s = .next t ∧ t.dev = { s.dev with time := s.dev.time + 1 }
      ∧ OnlyIn [.dev, .scan, .clu, .drq, .eru, .ovr, .cst, .stc, .cdt, .dpm] s t
      ∧ (s.dev.state ≠ .running →
          t.scan = s.scan ∧ t.clu = s.clu ∧ t.drq = s.drq ∧ t.eru = s.eru)
      ∧ (s.dev.state = .running →
          t.scan = { s.scan with timer := s.scan.timer.map (· - 1) }
          ∧ t.eru = { s.eru with requestHold := s.eru.requestHold - 1 }
          ∧ t.clu = { s.clu with lanterns := t.clu.lanterns }
          ∧ (∀ d, t.lantern d =
              (s.lantern d).map fun l => { l with remaining := l.remaining.map (· - 1) })
          ∧ t.drq = { s.drq with sessions := t.drq.sessions }
          ∧ (∀ n, t.session n = { s.session n with timer := (s.session n).timer.map (· - 1) }))
      ∧ t.dpm = (if s.dev.state = .running ∨ s.dev.state = .stopping then
          { s.dpm with timer := s.dpm.timer.map (· - 1) } else s.dpm)
      ∧ t.cst = (if s.dev.state = .idle then s.cst else
          { s.cst with badIds := s.cst.badIds.map fun b => { b with remaining := b.remaining - 1 } })
      ∧ t.stc.panels = s.stc.panels
      ∧ (∀ k, t.string k = { s.string k with
          settle := (s.string k).settle.map (· - 1), wake := (s.string k).wake.map (· - 1),
          hold := (s.string k).hold.map (· - 1), sweepTimer := (s.string k).sweepTimer.map (· - 1),
          line := match (s.string k).line with
            | .window v got timeout remaining => .window v got timeout (remaining - 1)
            | other => other })
      ∧ t.ovr.zones = s.ovr.zones ∧ t.ovr.flags = s.ovr.flags
      ∧ (∀ k, t.line k =
          let l := s.line k
          if l.changeDue = true then l
          else if l.pin = l.asserted then { l with stable := 0 }
          else if l.stable < 49 then { l with stable := l.stable + 1 }
          else { l with changeDue := true })
      ∧ (∀ k, k < 16 →
          let x := s.channel k
          let receives : Bool := s.dev.state == .running || s.dev.state == .stopping
            || s.dev.state == .loading
              && !(s.dev.load == .outside || s.dev.load == .header || s.dev.load == .live)
          let governs : Bool := k % 2 == 0 || !(s.channel (k - 1)).settings.cascade
          let ticks : Bool := match x.settings.source with
            | .ms1 => true
            | .ms10 => (s.dev.time + 1).toNat % 10 == 0
            | .ms100 => (s.dev.time + 1).toNat % 100 == 0
          t.channel k =
            if receives then
              if !x.running && x.pending == .unset then { x with owed := 0 }
              else if governs && ticks then { x with owed := x.owed + 1 }
              else x
            else x)

/-- Every command, on every state, is answered by a next state, and it leaves every block of the state but those
listed for it in `touches` as it was, the queue among them. That every command is answered so is log 33's
inference, and where the command's condition does not hold log 1's choice. -/
def Obligations.CommandKeepsOtherBlocks : Prop :=
  ∀ (c : Instr) (s : State), ∃ t, exec c s = .next t ∧ OnlyIn (touches c) s t

/-! ## The register window and the device states -/

/-- POWER_ON_RESET brings every block to the state of `State.reset`, the pins' levels apart. SOFT_RESET, whatever the
RUN bit written with it, does so but for the anchors, CAUSE_MASK, the write counts, and the sequence in flight, whose
result is to be discarded (R21, R25). After either the fire lines are RELEASED with a clear map (R111, R112). The
values of `State.reset` that the spec does not state, and that the pins keep their levels, are log 4's; that
POWER_ON_RESET drops the sequence in flight is log 7's; that the marks which R45 has
each car record make at a reset are made before R25 and R38 clear the dirty set is log 52's inference. -/
def Obligations.ResetsClearThePart : Prop :=
  (∀ s : State, ∃ t, exec .powerOnReset s = .next t
    ∧ (∀ offset width, t.windowRead offset width = 0) ∧ t.irq = false
    ∧ OnlyIn [.ovr, .freeUsed, .pending] State.reset t
    ∧ t.ovr.zones = State.reset.ovr.zones ∧ t.ovr.flags = State.reset.ovr.flags
    ∧ (∀ k, t.line k = { FireLine.initial with pin := decide (k < 4) && (s.line k).pin })
    ∧ t.pending = s.pending)
  ∧ (∀ (runBit : Bool) (s : State), ∃ t, exec (.softReset runBit) s = .next t
    ∧ t.win = { s.win with runBit := false }
    ∧ t.mir = { Mirror.initial with carWrites := s.mir.carWrites, routeWrites := s.mir.routeWrites }
    ∧ t.port =
        { Port.initial with inFlight := s.port.inFlight.map fun f => { f with discarded := true } }
    ∧ OnlyIn [.win, .mir, .port, .ovr, .freeUsed, .pending] State.reset t
    ∧ t.ovr.zones = State.reset.ovr.zones ∧ t.ovr.flags = State.reset.ovr.flags
    ∧ (∀ k, t.line k = { FireLine.initial with pin := decide (k < 4) && (s.line k).pin })
    ∧ (∀ k, k < 16 → (t.string k).supply = false ∧ (t.string k).driver = false
        ∧ (t.string k).state = .off ∧ (t.string k).line = .free)
    ∧ t.pending = s.pending)

/-- RUN moves the device state as the table of R22 gives, and is held as written (R21). A LOADING abandoned sets
STOPPED and comes to rest in IDLE: dirty set and fill queue emptied, sequence in flight to be discarded, check timer
stopped, receivers in HUNT, scanner at rest (R22, R38, R43, R137, R176; log 9). Entry to STOPPING: the scanner's
timer stops, requested areas and rescan flags are withdrawn, and the scan keeps its place only where its cell take
is in flight (R24, R34); a live take in flight is to be discarded, and a counter or supply read likewise (log 9's
inference); every receiver hunts (R43); and each string whose run request is 1 moves by R139, from POWERING to
PARKING, from RUNNING to DRAINING or, with nothing left to drain, PARKING, and from FAULT_LOCKED to OFF, and in
WAKING and ENUMERATING parks at a free line (R139, R143, R145); the strings follow from S0 to S15 (log 44), each as
StringsComeUpAndPark says, and one that drains with a SYNC still on its line parks when that ends (log 58). -/
def Obligations.RunMovesDeviceState : Prop :=
  ∀ (runBit : Bool) (s : State), ∃ t, exec (.run runBit) s = .next t
    ∧ t.win = { s.win with runBit := runBit }
    ∧ (runBit = s.win.runBit → OnlyIn [.win] s t)
    ∧ (runBit ≠ s.win.runBit →
        t.dev.state =
          (match s.dev.state, runBit with
            | .idle, true => .loading
            | .loading, false => .idle
            | .running, false => .stopping
            | state, _ => state)
        ∧ (s.dev.state = .loading → runBit = false →
            EntersIdle s t ∧ t.cause = s.cause ||| 0x4000
            ∧ t.dev = { s.dev with state := .idle, load := .outside }
            ∧ OnlyIn [.win, .cause, .dev, .port, .scan, .mir, .clu, .cst, .dpm] s t)
        ∧ ((s.dev.state = .stopping ∨ s.dev.state = .idle ∧ runBit = false
              ∨ (s.dev.state = .loading ∨ s.dev.state = .running) ∧ runBit = true) →
            OnlyIn [.win] s t)
        ∧ (s.dev.state = .running → runBit = false →
            let keep : Bool := s.port.inFlight.any fun f => match f.access with
              | .cellTake _ _ => !f.discarded
              | _ => false
            let drops (a : Access) : Bool := match a with
              | .counterRead _ _ | .liveTake | .supplyRead => true
              | _ => false
            OnlyIn ([.win, .dev, .port, .scan, .clu, .stc] ++ offerBlocks) s t
            ∧ t.dev = { s.dev with state := .stopping, stopLost := s.port.boardLost }
            ∧ t.scan = { s.scan with
                areas := t.scan.areas, place := if keep then s.scan.place else none, timer := none,
                liveRetry := false }
            ∧ (∀ a, t.scan.area a = {
                phase := if keep ∧ (s.scan.area a).phase = .inFlight then .inFlight else .idle,
                rescan := false })
            ∧ t.port = { s.port with inFlight := s.port.inFlight.map fun f =>
                { f with discarded := f.discarded || drops f.access } }
            ∧ t.clu = { s.clu with links := t.clu.links }
            ∧ (∀ l, t.link l = { s.link l with receiver := .hunt })
            ∧ t.stc.panels = s.stc.panels
            ∧ (∃ u, OnlyIn [.win, .dev, .port, .scan, .clu] s u ∧ u.dev = t.dev
                ∧ t = each ((List.range 16).filter fun k => (s.string k).settings.runRequest)
                    (fun k => runChanged k true) u)
            ∧ (∀ k, k < 16 → let x := s.string k
                (x.settings.runRequest = false → t.string k = x)
                ∧ (x.settings.runRequest = true →
                    (x.state = .running →
                      (t.string k).state = .draining ∨ (t.string k).state = .parking)
                    ∧ (x.state ≠ .running → (t.string k).state =
                        match x.state with
                          | .powering => .parking
                          | .waking | .enumerating => if x.line = .free then .parking else x.state
                          | .faultLocked => .off
                          | state => state)
                    ∧ ((t.string k).state ≠ x.state → tget t.mir.dirty (1376 + k) false = true)))))

/-- START: the device time at 0, no start fault, the anchors' Board address in use, BOARD_LOST and the failure count
clear, every mirror record dirty and every receipt cleared, the scanner's taken and torn counts 0 and its seen counts
invalid, displays, compositions, cars, links, lanterns, sessions, routes and zones initial, the strings' fault,
overrun and sweep counts 0 and their schedules empty, the Content Store emptied with its queue, recency lists,
windows and counts, panels and channels initial, presence WAITING_FIRST; CAUSE, the header's settings, the write
counts, the last ticket, the routing table, the purge serial and the strings' settings stand (R22, R23 step 1, R30,
R35, R38, R39, R95, R122, R124, R133, R137, R138, R154, R168, R175). The times of a car, a route and a lantern that
the spec gives no initial value are log 4's, and log 54's here; that no earlier SUPPLY request holds off the next
(R98) is log 54's choice; the clear rescan-pending flags are log 24's. -/
def Obligations.StartClearsThePart : Prop :=
  ∀ s : State, s.dev.state = .idle → s.win.runBit = false →
    ∃ t, exec (.run true) s = .next t
      ∧ t.dev = { state := .loading, load := .header, startFault := .clear, time := 0,
                  board := s.win.anchorHi ++ s.win.anchorLo, stopLost := false }
      ∧ t.port = { s.port with lastGranted := .mirrorWriter, failures := 0, boardLost := false }
      ∧ (∀ i, i < 1401 → tget t.mir.dirty i false = mirrored i) ∧ t.mir.next = 0
      ∧ (∀ c, t.receipt c = { count := 0, verdict := .unset, reason := .unset })
      ∧ t.mir.carWrites = s.mir.carWrites ∧ t.mir.routeWrites = s.mir.routeWrites
      ∧ t.scan = Scanner.initial
      ∧ (∀ c, tget t.scan.taken c 0 = 0 ∧ tget t.scan.torn c 0 = 0)
      ∧ (∀ g, tget t.scan.seen g none = none)
      ∧ t.scan.liveTaken = 0 ∧ t.scan.liveTorn = 0 ∧ t.scan.liveVerdict = .unset
      ∧ (∀ d, t.display d = DisplayRecord.initial) ∧ (∀ d, t.comp d = Composition.initial)
      ∧ (∀ c, t.car c = Car.initial) ∧ (∀ l, t.link l = Link.initial) ∧ (∀ d, t.lantern d = none)
      ∧ (∀ n, t.session n = Session.initial) ∧ t.drq.lastTicket = s.drq.lastTicket
      ∧ (∀ r, t.route r = Route.initial) ∧ t.eru.table = s.eru.table
      ∧ t.eru.drawn = 0 ∧ t.eru.lastRead = 0 ∧ t.eru.lastServed = 7 ∧ t.eru.requestHold = 0
      ∧ (∀ z, t.zone z = Zone.initial) ∧ t.ovr.lines = s.ovr.lines
      ∧ (∀ k, tget t.ovr.flags k false = false)
      ∧ (∀ i, t.slot i = Slot.initial) ∧ (∀ k, tget t.cst.recency k [] = [])
      ∧ t.cst.queue = [] ∧ t.cst.badIds = [] ∧ t.cst.fills = 0 ∧ t.cst.misses = 0
      ∧ (∀ k, tget t.cst.windows k LockWindow.initial = { valid := false, base := 0, mask := 0 })
      ∧ t.cst.purgeSerial = s.cst.purgeSerial
      ∧ (∀ k, t.string k =
          { s.string k with faults := 0, overruns := 0, completed := 0, schedule := [] })
      ∧ (∀ p, t.panel p = Panel.initial) ∧ (∀ k, t.channel k = Channel.initial)
      ∧ t.dpm = Dpm.initial ∧ t.cause = s.cause ∧ t.hdr = s.hdr

/-- The window of R20: the anchors and their writes, other accesses, the Board address in use, and what
each reset does to the anchors. -/
def Obligations.WindowAndAnchors : Prop :=
  (∀ (s : State) (offset width : Nat), (width ≠ 32 ∨ offset ∉ registerOffsets) →
      s.windowRead offset width = 0)
  ∧ (∀ (offset width : Nat) (value : Word32) (s : State),
      exec (.registerWriteOther offset width value) s = .next s)
  ∧ (∀ s : State, s.windowRead 0x00 32 = s.win.anchorLo ∧ s.windowRead 0x04 32 = s.win.anchorHi)
  ∧ (∀ (value : Word32) (s : State), ∃ t, exec (.anchorLoWrite value) s = .next t
      ∧ (s.dev.state = .idle → t = s.withWin { s.win with anchorLo := value &&& 0xFFFF0000 })
      ∧ (s.dev.state ≠ .idle → t = s))
  ∧ (∀ (value : Word32) (s : State), ∃ t, exec (.anchorHiWrite value) s = .next t
      ∧ (s.dev.state = .idle → t = s.withWin { s.win with anchorHi := value })
      ∧ (s.dev.state ≠ .idle → t = s))
  ∧ (∀ (s t : State), anchorAligned s → step s = .next t → anchorAligned t)
  ∧ (∀ (c : Instr) (s t : State), exec c s = .next t → t.dev.board ≠ s.dev.board →
      (t.dev.state = .loading ∧ t.dev.board = t.win.anchorHi ++ t.win.anchorLo)
        ∨ c = .powerOnReset ∨ ∃ runBit, c = .softReset runBit)
  ∧ (∀ (s t : State), exec .powerOnReset s = .next t → t.win.anchorLo = 0 ∧ t.win.anchorHi = 0)
  ∧ (∀ (runBit : Bool) (s t : State), exec (.softReset runBit) s = .next t →
      t.win.anchorLo = s.win.anchorLo ∧ t.win.anchorHi = s.win.anchorHi)

/-- CAUSE_WRITE clears each bit written as 1 and leaves the others, and a read returns the bits (R179); STATE
reports the device state, presence, BOARD_LOST and the start-fault code in the bits of R181; CONTROL reads RUN in
bit 0 as it is held and RESET as 0, so the RUN bit of a write of RUN as it was written, and 0 after a reset (R21). -/
def Obligations.CauseAndStateWords : Prop :=
  (∀ (value : Word32) (s : State), ∃ t, exec (.causeWrite value) s = .next t
    ∧ (∀ i, i < 15 → t.cause.getLsbD i = (s.cause.getLsbD i && !value.getLsbD i))
    ∧ (∀ i, 15 ≤ i → (t.windowRead 0x10 32).getLsbD i = false)
    ∧ t.windowRead 0x10 32 = t.cause.setWidth 32 ∧ OnlyIn [.cause] s t)
  ∧ (∀ s : State,
    ((s.windowRead 0x0C 32).extractLsb' 0 2).toNat = s.dev.state.code
    ∧ ((s.windowRead 0x0C 32).extractLsb' 2 2).toNat = s.dpm.presence.code
    ∧ (s.windowRead 0x0C 32).getLsbD 4 = s.port.boardLost
    ∧ ((s.windowRead 0x0C 32).extractLsb' 8 3).toNat = s.dev.startFault.code
    ∧ (s.windowRead 0x0C 32) &&& 0xFFFFF8E0 = 0)
  ∧ (∀ s : State, s.windowRead 0x08 32 = if s.win.runBit then 1 else 0)
  ∧ (∀ (runBit : Bool) (s : State), ∃ t, exec (.run runBit) s = .next t
    ∧ t.windowRead 0x08 32 = if runBit then 1 else 0)
  ∧ (∀ (runBit : Bool) (s : State), ∃ t, exec (.softReset runBit) s = .next t ∧ t.windowRead 0x08 32 = 0)
  ∧ (∀ s : State, ∃ t, exec .powerOnReset s = .next t ∧ t.windowRead 0x08 32 = 0)

/-- CAUSE_MASK and the interrupt line (R180). -/
def Obligations.MaskAndInterruptLine : Prop :=
  (∀ (value : Word32) (s : State), ∃ t, exec (.causeMaskWrite value) s = .next t
      ∧ t.windowRead 0x14 32 = value &&& 0x7FFF ∧ OnlyIn [.win] s t
      ∧ t.win.anchorLo = s.win.anchorLo ∧ t.win.anchorHi = s.win.anchorHi
      ∧ t.win.runBit = s.win.runBit
      ∧ (t.irq = true ↔ ∃ i, i < 15 ∧ s.cause.getLsbD i = true ∧ value.getLsbD i = true))
  ∧ (∀ s : State, s.irq = true ↔
      ∃ i, i < 15 ∧ (s.windowRead 0x10 32).getLsbD i = true
        ∧ (s.windowRead 0x14 32).getLsbD i = true)
  ∧ (∀ (b : CauseBit) (s : State), s.win.mask.getLsbD b.index = false →
      (setCause b s).irq = s.irq ∧ ((setCause b s).cause = s.cause ||| BitVec.ofNat 15 (2 ^ b.index)))
  ∧ (∀ (s t : State), exec .powerOnReset s = .next t → t.windowRead 0x14 32 = 0)
  ∧ (∀ (runBit : Bool) (s t : State), exec (.softReset runBit) s = .next t →
      t.win.mask = s.win.mask)

/-! ## The port, the mirror and the scanner -/

/-- The end of an access sequence frees the port, counts a failure or clears the count, and at the fourth failure in
a row sets BOARD_LOST and its cause bit and detaches presence, which in IDLE is kept (R40, R41, R42, R175). That a
sequence whose result is discarded still counts so, after a soft reset and in IDLE too, and has no other effect is
log 7's reading; that the count and what it does to presence come before the claimant's own part, so that a step of
LOADING that fails as the fourth in a row detaches presence before it ends in IDLE, is log 51's choice; that the
command changes nothing without its sequence in flight is log 1's choice. The whole of the end: CAUSE, the device
record's mark, the condition of STOPPING and the counting of presence, and at the fourth failure, outside IDLE and
where presence is not DETACHED(BOARD) already, `changePresence` with the notices and the PRESENCE of R178 that
DetachedSessionsFallBack states; what a command does after a failure, FILL and HEARTBEAT_READ apart, keeps every
block those notices reach as they left it (R42, R177, R178). -/
def Obligations.SequenceEndsFreeThePort : Prop :=
  ∀ (c : Instr) (ok : Bool) (s : State), busAnswer c = some ok →
    (∀ f, s.port.inFlight = some f → commandEnds c f.access = true →
      ∃ t, exec c s = .next t
        ∧ t.port = { inFlight := none, lastGranted := s.port.lastGranted,
                     failures := if ok then 0 else min 255 (s.port.failures + 1),
                     boardLost := !ok && (s.port.boardLost || s.port.failures == 3) }
        ∧ (ok = false → s.port.failures = 3 → t.cause.getLsbD 10 = true
            ∧ (s.dev.state ≠ .idle → t.dpm.presence = .detachedBoard ∧ t.dpm.counting = false))
        ∧ (f.discarded = true → t = endSequence ok s
            ∧ (s.dev.state = .idle → t.dpm.presence = s.dpm.presence))
        ∧ (ok = false → f.discarded = false → (∀ x, c ≠ .fill x) → (∀ x, c ≠ .heartbeatRead x) →
            let e := endSequence false s
            OnlyIn [.cause, .dev, .port, .scan, .mir, .clu, .cst, .dpm] e t
            ∧ t.clu.cars = e.clu.cars ∧ t.clu.lanterns = e.clu.lanterns
            ∧ t.dpm.presence = e.dpm.presence))
    ∧ ((∀ f, s.port.inFlight = some f → commandEnds c f.access = false) → exec c s = .next s)
    ∧ (let n := if ok then 0 else min 255 (s.port.failures + 1)
       let lost : Bool := !ok && s.port.failures == 3
       let freed := s.withPort {
          inFlight := none, lastGranted := s.port.lastGranted, failures := n,
          boardLost := !ok && (s.port.boardLost || lost) }
       let marked := freed.withMir { s.mir with
          dirty := if n = s.port.failures then s.mir.dirty else tset s.mir.dirty 1400 true }
       let caused := (marked.withCause (if lost then s.cause ||| 0x0400 else s.cause)).withDev
          { s.dev with stopLost := s.dev.stopLost || (lost && s.dev.state == .stopping) }
       let u := caused.withDpm
          (if s.dpm.presence = .detachedBoard then
            if lost then { s.dpm with changed := 0, counting := false }
            else if ok ∧ s.port.boardLost then { s.dpm with counting := true } else s.dpm
          else s.dpm)
       endSequence ok s =
        if lost ∧ s.dpm.presence ≠ .detachedBoard ∧ s.dev.state ≠ .idle then
          changePresence .detachedBoard u
        else u)

/-- PORT_GRANT: the free port goes to the first waiting claimant after the one last granted, in the cyclic
order of R40; a port that is held, or that nobody waits for, is left as it is. What each claimant begins: the
scanner its step of LOADING, or the place of its scan, with the reads of the Board layout, a take being the lead
count, the burst and the lead count again (R23, R29, R32, R35, R54); the fill engine the entry at the head of its
queue, marked started, with the read of its directory entry (R121, R126, R127); the heartbeat reader, where a check
is pending, a read of header bytes 32 to 35 (R176); the page engine work of the route it chooses, which becomes the
one served last (R99); the mirror writer a write where a record is dirty (R37). That in IDLE none waits is log 26's
inference. -/
def Obligations.PortGoesRoundRobin : Prop :=
  ∀ s : State,
    (s.port.inFlight.isSome = true → exec .portGrant s = .next s)
    ∧ (s.port.inFlight = none → (∀ c, startClaim c s = none) → exec .portGrant s = .next s)
    ∧ (∀ c u f, s.port.inFlight = none → startClaim c s = some (u, f) →
        (∀ b, (startClaim b s).isSome = true →
          claimantDistance s.port.lastGranted c ≤ claimantDistance s.port.lastGranted b) →
        exec .portGrant s =
          .next (u.withPort { s.port with inFlight := some f, lastGranted := c }))
    ∧ (s.dev.state = .idle → ∀ c, startClaim c s = none)
    ∧ (s.dev.state ≠ .idle →
        let at_ (offset : Nat) : BitVec 64 := s.dev.board + BitVec.ofNat 64 offset
        let begins (a : Access) (ops : List BusOp) : Option (State × InFlight) :=
          some (s, { access := a, ops := ops, discarded := false })
        let take (offset size : Nat) : List BusOp :=
          [.read (at_ offset) 4, .read (at_ (offset + 4)) (size - 4), .read (at_ offset) 4]
        let cell (c : Nat) : Nat × Nat :=
          if c < 512 then (0x1000 + 32 * c, 32)
          else if c < 640 then (0x5000 + 16 * (c - 512), 16) else (0x5800 + 16 * (c - 640), 16)
        let scan : Option (State × InFlight) := match s.scan.place with
          | none => none
          | some (.counter area g) => begins (.counterRead area g) [.read (at_ (0x0800 + 4 * g)) 4]
          | some (.cell area g i _ _) =>
            begins (.cellTake area (32 * g + i)) (take (cell (32 * g + i)).1 (cell (32 * g + i)).2)
          | some (.seed g i) => begins (.seedRead (32 * g + i)) [.read (at_ (cell (32 * g + i)).1) 4]
          | some .live => begins .liveTake (take 0x0100 608)
          | some .supply => begins .supplyRead [.read (at_ 0x0900) 4]
        startClaim .scanner s = (match s.dev.state, s.dev.load with
          | .running, _ | .loading, .firstScan => scan
          | .loading, .header => begins .headerRead [.read (at_ 0) 256]
          | .loading, .live => begins .liveTake (take 0x0100 608)
          | .loading, .floorLabels => begins .floorLabelRead [.read s.hdr.floorLabelTable 1024]
          | .loading, .carLabels => begins .carLabelRead [.read s.hdr.carLabelTable 128]
          | .loading, .supplyCount => begins .supplyRead [.read (at_ 0x0900) 4]
          | _, _ => none)
        ∧ (s.cst.queue = [] → startClaim .fillEngine s = none)
        ∧ (∀ e rest, s.cst.queue = e :: rest → startClaim .fillEngine s = some
            (s.withCst { s.cst with queue := { e with started := true } :: rest },
             { access := .fill e.slot e.item, discarded := false,
               ops := [.read (s.hdr.contentDirectory + BitVec.ofNat 64 (8 * e.item)) 8] }))
        ∧ startClaim .heartbeatReader s =
            (if s.dpm.checkPending then begins .heartbeatRead [.read (at_ 32) 4] else none)
        ∧ (s.engineRoute = none → startClaim .pageEngine s = none)
        ∧ (∀ r, s.engineRoute = some r →
            ∃ f, startClaim .pageEngine s = some (s.withEru { s.eru with lastServed := r }, f))
        ∧ ((startClaim .mirrorWriter s).isSome = true ↔ ∃ i, tget s.mir.dirty i false = true))

/-- MIRROR_WRITE: a write that failed sets its record's flag again, and a success leaves the set (R38). At the
mirror writer's grant the first dirty record from the place of the search, wrapping, is captured: its flag is
cleared, the search goes on after it, and the sequence carries its contents as they stand in the bytes of its
Board format; a car or route record's write count rises by 1 and goes out as lead and as tail (R37, R39, R40,
R64, R85, R108, R153, R167, R182). The search passes a record at its capture whether its write succeeds or fails
(log 40), and a device record carries the failure count as captured (log 45). -/
def Obligations.FailedMirrorWriteStaysDirty : Prop :=
  (∀ (ok : Bool) (i : Nat) (s : State), s.flies (.mirrorWrite i) → i < 1401 →
    ∃ t, exec (.mirrorWrite ok) s = .next t
      ∧ (ok = true → t = endSequence true s)
      ∧ (ok = false → tget t.mir.dirty i false = true
          ∧ (∀ j, j ≠ i → tget t.mir.dirty j false = tget (endSequence false s).mir.dirty j false)
          ∧ OnlyIn [.mir] (endSequence false s) t))
  ∧ (∀ (i : Nat) (s : State), i < 1401 → s.dev.state ≠ .idle → s.port.inFlight = none →
    (∀ b, (startClaim b s).isSome = true →
      claimantDistance s.port.lastGranted .mirrorWriter ≤ claimantDistance s.port.lastGranted b) →
    tget s.mir.dirty i false = true →
    (∀ j, j < 1401 → tget s.mir.dirty j false = true →
      (i + 1401 - s.mir.next % 1401) % 1401 ≤ (j + 1401 - s.mir.next % 1401) % 1401) →
    let at_ (offset : Nat) : BitVec 64 := s.dev.board + BitVec.ofNat 64 offset
    let byte (n : Nat) : Byte := BitVec.ofNat 8 n
    let page (p : Option (BitVec 40)) : List Byte := leBytes 5 (p.getD 0).toNat
    let c := i - 800
    let r := i - 1392
    ∃ t ops, exec .portGrant s = .next t ∧ OnlyIn [.port, .mir] s t
      ∧ t.port = { s.port with
          inFlight := some { access := .mirrorWrite i, ops := ops, discarded := false },
          lastGranted := .mirrorWriter }
      ∧ t.mir.next = (i + 1) % 1401 ∧ t.mir.receipts = s.mir.receipts
      ∧ tget t.mir.dirty i false = false
      ∧ (∀ j, j ≠ i → tget t.mir.dirty j false = tget s.mir.dirty j false)
      ∧ (∀ k, k < 64 → tget t.mir.carWrites k 0 =
          tget s.mir.carWrites k 0 + if i = 800 + k then 1 else 0)
      ∧ (∀ k, k < 8 → tget t.mir.routeWrites k 0 =
          tget s.mir.routeWrites k 0 + if i = 1392 + k then 1 else 0)
      ∧ (i < 672 → ops = [.write
          (at_ (if i < 512 then 0x6000 + 8 * i else if i < 640 then 0x7000 + 8 * (i - 512)
            else 0x7400 + 8 * (i - 640)))
          (leBytes 4 (s.receipt i).count.toNat
            ++ [byte (s.receipt i).verdict.code, byte (s.receipt i).reason.code, 0, 0])])
      ∧ (672 ≤ i → i < 800 → let x := s.session (i - 672)
          ops = [.write (at_ (0x7800 + 8 * (i - 672)))
            ([byte x.state.code, byte x.fallback.code] ++ leBytes 2 x.ticket
              ++ [byte (x.route.getD 0xFF), 0, 0, 0])])
      ∧ (800 ≤ i → i < 864 → let x := s.car c
          let count := leBytes 4 (tget s.mir.carWrites c 0 + 1).toNat
          ops = [.write (at_ (0x8000 + 16 * c)) count,
            .write (at_ (0x8000 + 16 * c) + 4)
              [byte x.state.code, byte x.lower, byte x.upper,
               byte (x.motion.code + 4 * x.direction.code), byte x.door.code,
               byte (x.mode.code + if x.full then 128 else 0), byte x.sequence, byte x.gaps],
            .write (at_ (0x8000 + 16 * c) + 12) count])
      ∧ (864 ≤ i → i < 1376 → let x := s.panel (i - 864)
          ops = [.write (at_ (0x8400 + 4 * (i - 864)))
            [byte x.health.code, byte x.misses, byte (x.light.getD 0), 0]])
      ∧ (1376 ≤ i → i < 1392 → let x := s.string (i - 1376)
          ops = [.write (at_ (0x8C00 + 16 * (i - 1376)))
            ([byte x.state.code, byte x.faults, 0, 0] ++ leBytes 4 x.overruns.toNat
              ++ leBytes 4 x.completed.toNat ++ [0, 0, 0, 0])])
      ∧ (1392 ≤ i → i < 1400 → let x := s.route r
          let count := leBytes 4 (tget s.mir.routeWrites r 0 + 1).toNat
          ops = [.write (at_ (0x8D00 + 32 * r)) count,
            .write (at_ (0x8D00 + 32 * r) + 4)
              (page x.openPage ++ page x.successor ++ page x.chainHead
                ++ [if x.enabled then 1 else 0] ++ leBytes 4 x.serial.toNat
                ++ leBytes 2 x.chain.toNat ++ leBytes 2 x.droppedTotal),
            .write (at_ (0x8D00 + 32 * r) + 28) count])
      ∧ (i = 1400 → ∃ flags : Byte,
          (∀ k, k < 8 → flags.getLsbD k = (decide (k < 4) && tget s.ovr.flags k false))
          ∧ ops = [.write (at_ 0x8E00)
            (leBytes 4 s.eru.drawn.toNat ++ leBytes 4 s.dpm.lastSeen.toNat
              ++ leBytes 4 s.cst.fills.toNat ++ leBytes 4 s.cst.misses.toNat
              ++ leBytes 4 s.scan.liveTaken.toNat
              ++ [byte s.dpm.presence.code, byte s.port.failures, flags, byte s.scan.liveVerdict.code]
              ++ List.replicate 8 0)]))

/-- The five scan nudges: a request in RUNNING, the rescan-pending flag in LOADING, nothing in IDLE or
STOPPING; FLUSH, which the route statement gives in RUNNING, is discarded elsewhere; and the scanner starts,
in RUNNING and with no scan in flight, the first requested area after the one it last scanned (R26, R33). -/
def Obligations.NudgesRequestScans : Prop :=
  ((∀ (c : Instr) (a : Area) (s : State),
      (c, a) ∈ [(Instr.nudgeCells, Area.cells), (.nudgeAnswers, .answers), (.nudgeOverrides, .overrides),
        (.nudgeLive, .live), (.nudgeSupply, .supply)] →
      ∃ t, exec c s = .next t
        ∧ (s.dev.state = .running → t = startScan (s.withScan (s.scan.setArea a
            (match (s.scan.area a).phase with
              | .idle => { phase := .requested, rescan := (s.scan.area a).rescan }
              | .requested => s.scan.area a
              | .inFlight => { phase := .inFlight, rescan := true }))))
        ∧ (s.dev.state = .loading → t = s.withScan (s.scan.setArea a
            { phase := (s.scan.area a).phase, rescan := true }))
        ∧ (s.dev.state = .idle ∨ s.dev.state = .stopping → t = s))
  ∧ (∀ s : State, s.dev.state ≠ .running → exec .nudgeFlush s = .next s))
  ∧ (∀ s : State,
    (s.dev.state ≠ .running ∨ s.scan.place.isSome = true
        ∨ (∀ a, (s.scan.area a).phase ≠ .requested) → startScan s = s)
    ∧ (∀ a, s.dev.state = .running → s.scan.place = none → (s.scan.area a).phase = .requested →
        (∀ b, (s.scan.area b).phase = .requested →
          areaDistance s.scan.lastScanned a ≤ areaDistance s.scan.lastScanned b) →
        OnlyIn [.scan] s (startScan s)
        ∧ (startScan s).scan.lastScanned = a ∧ (startScan s).scan.place = some a.firstPlace
        ∧ ∀ b, (startScan s).scan.area b =
            if b = a then { phase := .inFlight, rescan := (s.scan.area a).rescan } else s.scan.area b))

/-- SCAN_INTERVAL_EXPIRY: the timer starts again, CELLS, ANSWERS and OVERRIDES are requested, and LIVE where a
torn or aborted live take asked for it (R34, R28); before its time it changes nothing (log 3).
SUPPLY_SCAN_REQUEST: in RUNNING, when a route needs a page and none is available, SUPPLY is requested, and
not again before a scan interval has passed, 10 ms where the interval is 0 (R98). -/
def Obligations.TimedAndSupplyScans : Prop :=
  (∀ s : State, ∃ t, exec .scanIntervalExpiry s = .next t
    ∧ (¬ (s.dev.state = .running ∧ s.scan.timer = some 0) → t = s)
    ∧ (s.dev.state = .running → s.scan.timer = some 0 →
        ∃ u, t = startScan u ∧ OnlyIn [.scan] s u
          ∧ u.scan.timer = some s.hdr.scanInterval ∧ u.scan.liveRetry = false
          ∧ u.scan.place = s.scan.place ∧ u.scan.lastScanned = s.scan.lastScanned
          ∧ (∀ a ∈ [Area.cells, .answers, .overrides], u.scan.area a = (s.scan.area a).request)
          ∧ u.scan.area .live =
              (if s.scan.liveRetry then (s.scan.area .live).request else s.scan.area .live)
          ∧ u.scan.area .supply = s.scan.area .supply))
  ∧ (∀ s : State, s.dev.state = .running → s.available = 0 → s.eru.requestHold = 0 →
    (∃ r, r < 8 ∧ (s.route r).needsPage = true) →
    ∃ t u, exec .supplyScanRequest s = .next t ∧ t = startScan u ∧ OnlyIn [.scan, .eru] s u
      ∧ u.scan = s.scan.setArea .supply (s.scan.area .supply).request
      ∧ u.eru.requestHold = (if s.hdr.scanInterval = 0 then 10 else s.hdr.scanInterval)
      ∧ (∀ r, u.route r = s.route r) ∧ u.eru.drawn = s.eru.drawn ∧ u.eru.lastRead = s.eru.lastRead
      ∧ (u.scan.area .supply).phase ≠ .idle ∧ exec .supplyScanRequest t = .next t)

/-! ## LOADING, the takes and the end of STOPPING -/

/-- HEADER_READ: the settings reach their blocks, and LOADING goes on to its live take or ends in IDLE with TAG,
RANGE or BUS and START_FAULT (R23, R27; that a header refused at step 3 or 4 has been handed over is the model's
reading, log 27). The entry to IDLE of a failed step: dirty set and fill queue emptied, sequence in flight to be
discarded, check timer stopped, receivers in HUNT, scanner at rest (R22, R38, R43, R137, R176; log 9). That a bus
error has been counted, with BOARD_LOST and presence moved, before LOADING ends is log 51's choice. -/
def Obligations.HeaderReadChecksTagAndRanges : Prop :=
  ∀ (answer : BlockRead) (s : State), s.flies .headerRead →
    ∃ t, exec (.headerRead answer) s = .next t
      ∧ (answer = none → LoadingFails .bus (endSequence false s) t ∧ t.hdr = s.hdr)
      ∧ (∀ b, answer = some b →
          let e := endSequence true s
          let u := ((e.withHdr (headerSettings b)).withEru
            { e.eru with drawn := word32At b 20, lastRead := word32At b 20 }).withDpm
            { e.dpm with lastSeen := word32At b 32 }
          t.hdr = headerSettings b
          ∧ t.eru.drawn = word32At b 20 ∧ t.eru.lastRead = word32At b 20
          ∧ t.dpm.lastSeen = word32At b 32
          ∧ (num16At b 0 ≠ 0x4C48 → LoadingFails .tag u t)
          ∧ (num16At b 0 = 0x4C48 → (headerSettings b).inRange = false → LoadingFails .range u t)
          ∧ (num16At b 0 = 0x4C48 → (headerSettings b).inRange = true →
              t.dev = { s.dev with load := .live }
              ∧ OnlyIn [.dev, .hdr, .eru, .dpm, .mir, .port] s t))

/-- LABEL_TABLE_READ: the floor table and then the car table are held, four and two characters an entry; a
bus error ends LOADING at rest in IDLE with LABELS (R54, R23 step 6, R22; the floor table first, log 6), after it has
been counted, with BOARD_LOST and presence moved (that order is log 51's choice). -/
def Obligations.LabelTablesAreHeld : Prop :=
  ∀ (answer : BlockRead) (s : State),
    (s.flies .floorLabelRead ∨ s.flies .carLabelRead) →
    ∃ t, exec (.labelTableRead answer) s = .next t
      ∧ (answer = none → LoadingFails .labels (endSequence false s) t
          ∧ t.clu.floorLabels = s.clu.floorLabels ∧ t.clu.carLabels = s.clu.carLabels)
      ∧ (∀ b, answer = some b → s.flies .floorLabelRead →
          t.dev = { s.dev with load := .carLabels }
          ∧ OnlyIn [.dev, .clu, .port, .mir, .dpm] s t ∧ t.clu.carLabels = s.clu.carLabels
          ∧ ∀ f, f < 256 → tget t.clu.floorLabels f [] = (b.drop (4 * f)).take 4)
      ∧ (∀ b, answer = some b → s.flies .carLabelRead →
          t.dev = { s.dev with load := .supplyCount }
          ∧ OnlyIn [.dev, .clu, .port, .mir, .dpm] s t ∧ t.clu.floorLabels = s.clu.floorLabels
          ∧ ∀ c, c < 64 → tget t.clu.carLabels c [] = (b.drop (2 * c)).take 2)

/-- GROUP_COUNTER_READ in RUNNING: a group whose counter equals its seen count, or whose read failed, is
passed over and its seen count stands; another group's 32 takes begin; the last group ends the scan (R32, R36).
In the first scan, of a group not yet seen: the takes of a display or override group begin, an answer group's
seen count is set to the value read and its seeding begins, and a bus error ends LOADING with BUS (R35, R23), after
it has been counted, with BOARD_LOST and presence moved (that order is log 51's choice). The end of a scan: its area
is requested where its rescan-pending flag stood and else idle, the flag is cleared, no scan is in flight, and in
RUNNING the scanner starts the first requested area after the one last scanned, the ended one among them (R33). -/
def Obligations.CounterReadPassesOrBegins : Prop :=
  (∀ (answer : WordRead) (area : Area) (g : Nat) (s : State),
    s.flies (.counterRead area g) → s.dev.state = .running → g < 21 →
    ∃ t, exec (.groupCounterRead answer) s = .next t
      ∧ OnlyIn (.scan :: sequenceBlocks) s t ∧ t.scan.seen = s.scan.seen
      ∧ t.scan.taken = s.scan.taken ∧ t.scan.torn = s.scan.torn
      ∧ (∀ v, answer = some v → tget s.scan.seen g none ≠ some v →
          t.scan.place = some (.cell area g 0 v true))
      ∧ ((answer = none ∨ ∃ v, answer = some v ∧ tget s.scan.seen g none = some v) →
          g ≠ 15 → g ≠ 19 → g ≠ 20 → t.scan.place = some (.counter area (g + 1)))
      ∧ ((answer = none ∨ ∃ v, answer = some v ∧ tget s.scan.seen g none = some v) →
          g = 15 ∨ g = 19 ∨ g = 20 → t = endScan area (endSequence answer.isSome s)))
  ∧ (∀ (answer : WordRead) (area : Area) (g : Nat) (s : State),
    s.flies (.counterRead area g) → s.dev.state = .loading → g < 21 →
    tget s.scan.seen g none = none →
    ∃ t, exec (.groupCounterRead answer) s = .next t
      ∧ t.scan.taken = s.scan.taken ∧ t.scan.torn = s.scan.torn
      ∧ (answer = none → LoadingFails .bus (endSequence false s) t ∧ t.scan.seen = s.scan.seen)
      ∧ (∀ v, answer = some v → t.dev = s.dev ∧ OnlyIn [.scan] (endSequence true s) t
          ∧ (area ≠ .answers → t.scan.seen = s.scan.seen
              ∧ t.scan.place = some (.cell area g 0 v true))
          ∧ (area = .answers → t.scan.place = some (.seed g 0)
              ∧ tget t.scan.seen g none = some v
              ∧ ∀ h, h ≠ g → tget t.scan.seen h none = tget s.scan.seen h none)))
  ∧ (∀ (a : Area) (s : State),
    let t := endScan a s
    let ended : AreaCondition :=
      { phase := if (s.scan.area a).rescan then .requested else .idle, rescan := false }
    let after (b : Area) : AreaCondition := if b = a then ended else s.scan.area b
    OnlyIn [.scan] s t
    ∧ t.scan = { s.scan with
        areas := t.scan.areas, place := t.scan.place, lastScanned := t.scan.lastScanned }
    ∧ (s.dev.state ≠ .running ∨ (∀ b, (after b).phase ≠ .requested) →
        t.scan.place = none ∧ t.scan.lastScanned = s.scan.lastScanned ∧ ∀ b, t.scan.area b = after b)
    ∧ (∀ b, s.dev.state = .running → (after b).phase = .requested →
        (∀ c, (after c).phase = .requested →
          areaDistance s.scan.lastScanned b ≤ areaDistance s.scan.lastScanned c) →
        t.scan.lastScanned = b
        ∧ t.scan.place = some (match b with
            | .cells => .counter .cells 0
            | .answers => .counter .answers 16
            | .overrides => .counter .overrides 20
            | .live => .live
            | .supply => .supply)
        ∧ ∀ c, t.scan.area c =
            if c = b then { phase := .inFlight, rescan := (after b).rescan } else after c))

/-- CELL_TAKE sorted: no-change, new, torn, and the eighth torn take in a row (R29, R30, R31). After it the next cell
of the group follows, or after the thirty-second the next group, the group's seen count set where all 32 takes were
clean; in STOPPING the outcome is applied and the scan ends; in LOADING the first scan goes from group to group (its
order is log 6) and ends in RUNNING after group 20 (R24, R32, R35). A bus error leaves the taken and torn counts, the
receipts and the seen counts, and leaves the group unclean; in LOADING it ends the load with BUS (R36, R23). That the
end of the sequence is counted, with BOARD_LOST and presence moved, before the take is sorted or LOADING ends is log
51's choice. A new take changes what its owner's take changes, the counts and the receipt apart: a display cell's
take, an answer cell's or an override cell's as those statements give them (R30); the eighth torn take in a row
offers CELL_STUCK with the area, the number and the three counts (R31); a no-change or an earlier torn one changes the
scanner alone. After a last cell in RUNNING the scan ends as CounterReadPassesOrBegins says (R33). -/
def Obligations.CellTakeIsSorted : Prop :=
  (∀ (lead again : Word32) (burst : List Byte) (area : Area) (g i : Nat) (counter : Word32)
    (clean : Bool) (cell : Nat) (s : State),
    s.flies (.cellTake area cell) → s.scan.place = some (.cell area g i counter clean) →
    g < 21 → i < 32 →
    let all : Bool := clean && tailOf burst == lead && again == lead
    let c := g * 32 + i
    let e := endSequence true s
    let owned : State × Verdict × Reason := match area with
      | .cells => takeDisplay c burst e
      | .answers => takeAnswer (c - 512) burst e
      | .overrides => takeOverride (c - 640) burst e
      | .live | .supply => (e, .unset, .unset)
    let source : Nat := match area with
      | .cells => c
      | .answers => 1 * 512 + (c - 512)
      | .overrides => 2 * 512 + (c - 640)
      | .live => 3 * 512
      | .supply => 0
    let stuck := offerClass .cellStuck source
      (leBytes 2 lead.toNat ++ leBytes 2 (tailOf burst).toNat ++ leBytes 2 again.toNat) e
    ∃ t u, exec (.cellTake (.read lead burst again)) s = .next t
      ∧ ScanGoesOn area g i counter all u t
      ∧ u.dev = s.dev ∧ u.hdr = s.hdr
      ∧ u.scan = { s.scan with taken := t.scan.taken, torn := t.scan.torn, seen := t.scan.seen }
      ∧ (tailOf burst = lead ∧ again = lead ∧ lead = tget s.scan.taken c 0
            ∨ ¬ (tailOf burst = lead ∧ again = lead) ∧ tget s.scan.torn c 0 < 7 →
          OnlyIn [.scan] e u)
      ∧ (¬ (tailOf burst = lead ∧ again = lead) → 7 ≤ tget s.scan.torn c 0 → OnlyIn [.scan] stuck u)
      ∧ (tailOf burst = lead → again = lead → lead ≠ tget s.scan.taken c 0 →
          OnlyIn [.scan, .mir] owned.1 u
          ∧ u.mir = { owned.1.mir with
              receipts := tset owned.1.mir.receipts c
                { count := lead, verdict := owned.2.1, reason := owned.2.2 },
              dirty := tset owned.1.mir.dirty c true })
      ∧ (∀ j, j ≠ g * 32 + i → tget t.scan.taken j 0 = tget s.scan.taken j 0
          ∧ tget t.scan.torn j 0 = tget s.scan.torn j 0 ∧ t.receipt j = s.receipt j)
      ∧ (tailOf burst = lead → again = lead → lead = tget s.scan.taken (g * 32 + i) 0 →
          tget t.scan.taken (g * 32 + i) 0 = lead ∧ tget t.scan.torn (g * 32 + i) 0 = 0
          ∧ t.receipt (g * 32 + i) = s.receipt (g * 32 + i) ∧ t.ddir = s.ddir)
      ∧ (tailOf burst = lead → again = lead → lead ≠ tget s.scan.taken (g * 32 + i) 0 →
          tget t.scan.taken (g * 32 + i) 0 = lead ∧ tget t.scan.torn (g * 32 + i) 0 = 0
          ∧ (t.receipt (g * 32 + i)).count = lead
          ∧ ((t.receipt (g * 32 + i)).verdict, (t.receipt (g * 32 + i)).reason)
              = owned.2
          ∧ tget t.mir.dirty (g * 32 + i) false = true)
      ∧ (¬ (tailOf burst = lead ∧ again = lead) →
          tget t.scan.taken (g * 32 + i) 0 = tget s.scan.taken (g * 32 + i) 0
          ∧ t.receipt (g * 32 + i) = s.receipt (g * 32 + i) ∧ t.ddir = s.ddir
          ∧ tget t.scan.torn (g * 32 + i) 0 =
              (if tget s.scan.torn (g * 32 + i) 0 < 7 then tget s.scan.torn (g * 32 + i) 0 + 1 else 0))
      ∧ (∀ h, h ≠ g ∨ i < 31 ∨ all = false → tget t.scan.seen h none = tget s.scan.seen h none)
      ∧ (i = 31 → all = true → tget t.scan.seen g none = some counter)
      ∧ (s.dev.state = .stopping → t.scan.place = none ∧ t.dev.state = .stopping))
  ∧ (∀ (area : Area) (g i : Nat) (counter : Word32) (clean : Bool) (cell : Nat) (s : State),
    s.flies (.cellTake area cell) → s.scan.place = some (.cell area g i counter clean) →
    g < 21 → i < 32 →
    ∃ t, exec (.cellTake .busError) s = .next t
      ∧ t.scan.taken = s.scan.taken ∧ t.scan.torn = s.scan.torn ∧ t.scan.seen = s.scan.seen
      ∧ t.mir.receipts = s.mir.receipts ∧ t.ddir = s.ddir
      ∧ (s.dev.state ≠ .loading → ScanGoesOn area g i counter false (endSequence false s) t)
      ∧ (s.dev.state = .stopping → t.scan.place = none ∧ t.dev.state = .stopping)
      ∧ (s.dev.state = .loading → LoadingFails .bus (endSequence false s) t))

/-- ANSWER_SEED_READ: the lead count becomes the cell's taken count, and neither a receipt nor a session is touched;
SUPPLY_COUNT_READ: the last-read supply count becomes the value read, and at LOADING step 8 follows; at LOADING a bus
error ends either with BUS (R35, R98, R23 step 7, R36), after it has been counted, with BOARD_LOST and presence moved
(that order is log 51's choice). Step 8 resolves each line by the cases of R113, a covered item after one pre-fill,
which an empty Content Store takes, from F0 to F3 (logs 35 and 49), and it ends at once where it asked for none
(R113). That the override group follows the answer groups is log 6's inference. The entry to RUNNING that ends the
first scan: the areas whose rescan-pending flag stood are requested and the first of them starts, the interval timer
and the check timer start, the cars not yet heard are watched from now, and the OFF strings whose run request is 1
power up with their panels UNSEEN (R23 step 10, R33, R34, R45, R138, R140, R176), from S0 to S15 (log 44), each as
StringsComeUpAndPark says of a risen run. -/
def Obligations.SeedsAndSupplyCountAreHeld : Prop :=
  (∀ (answer : WordRead) (g i cell : Nat) (s : State),
    s.flies (.seedRead cell) → s.scan.place = some (.seed g i) → s.dev.state = .loading →
    16 ≤ g → g < 20 → i < 32 →
    ∃ t, exec (.answerSeedRead answer) s = .next t
      ∧ t.mir.receipts = s.mir.receipts
      ∧ (∀ v, answer = some v →
          t.dev = s.dev ∧ tget t.scan.taken (g * 32 + i) 0 = v
          ∧ (∀ j, j ≠ g * 32 + i → tget t.scan.taken j 0 = tget s.scan.taken j 0)
          ∧ OnlyIn [.scan] (endSequence true s) t
          ∧ t.scan.place = some (if i < 31 then .seed g (i + 1)
              else .counter (if g < 19 then .answers else .overrides) (g + 1)))
      ∧ (answer = none → LoadingFails .bus (endSequence false s) t))
  ∧ (∀ (answer : WordRead) (s : State), s.flies .supplyRead →
    ∃ t, exec (.supplyCountRead answer) s = .next t
      ∧ (∀ v, answer = some v → t.eru.lastRead = v ∧ t.eru.drawn = s.eru.drawn)
      ∧ (answer = none → t.eru.lastRead = s.eru.lastRead)
      ∧ (s.dev.state = .loading → answer = none → LoadingFails .bus (endSequence false s) t)
      ∧ (s.dev.state = .loading → answer ≠ none →
          let item (k : Nat) : Nat := (s.line k).mapItem
          let asked (m : Nat) : Prop := m < 4088 ∧ Covers s.cst.windows m
          let started : Prop := ∃ e ∈ t.cst.queue, e.preFill = true
          t.dev.state = .loading
          ∧ (started → t.dev.load = .preFill ∧ t.ovr.flags = s.ovr.flags ∧ t.ovr.zones = s.ovr.zones)
          ∧ (¬ started → StepEightEnded t)
          ∧ (∀ k, k < 4 →
              (4088 ≤ item k →
                t.line k = { s.line k with resolved := item k, substituted := false })
              ∧ (item k < 4088 → ¬ Covers s.cst.windows (item k) →
                t.line k = { s.line k with resolved := 4093, substituted := true })
              ∧ (asked (item k) →
                t.line k = { s.line k with resolved := item k, substituted := false }))
          ∧ (s.cst.queue = [] → s.cst.badIds = [] → (∀ i, s.slot i = Slot.initial) →
              (∀ e ∈ t.cst.queue, e.preFill = true ∧ e.refill = false ∧ e.started = false
                ∧ t.slot e.slot = { Slot.initial with state := .filling, item := some e.item }
                ∧ ∃ k, k < 4 ∧ item k = e.item ∧ asked e.item)
              ∧ (t.cst.queue.map (·.item)).Nodup
              ∧ (∀ k, k < 4 → asked (item k) → item k ∈ t.cst.queue.map (·.item))
              ∧ (∀ j k, j < k → k < 4 → asked (item j) → asked (item k) →
                  (t.cst.queue.map (·.item)).idxOf (item j) ≤ (t.cst.queue.map (·.item)).idxOf (item k)
                  ∨ ∃ i, i < j ∧ item i = item k)))
      ∧ (s.dev.state = .running →
          t = endScan .supply (match answer with
            | some v => (endSequence true s).withEru
                { (endSequence true s).eru with lastRead := v }
            | none => endSequence false s)))
  ∧ (∀ s : State, let t := enterRunning s
    OnlyIn ([.dev, .scan, .clu, .dpm] ++ stringBlocks) s t
    ∧ (∃ u, OnlyIn [.dev, .scan, .clu, .dpm] s u ∧ u.dev = t.dev
        ∧ t = each (List.range 16) (fun k => runChanged k false) u)
    ∧ t.dev = { s.dev with state := .running, load := .outside }
    ∧ t.dpm = { s.dpm with timer := some s.hdr.checkInterval }
    ∧ (∀ c, t.car c = if (s.car c).state = .unheard then { s.car c with lastTime := s.dev.time }
        else s.car c)
    ∧ t.clu.links = s.clu.links ∧ t.clu.lanterns = s.clu.lanterns
    ∧ t.scan.timer = (if s.hdr.scanInterval = 0 then none else some s.hdr.scanInterval)
    ∧ t.scan.taken = s.scan.taken ∧ t.scan.torn = s.scan.torn ∧ t.scan.seen = s.scan.seen
    ∧ ((∀ a, (s.scan.area a).rescan = false) → t.scan.place = none ∧ t.scan.lastScanned = .supply)
    ∧ (∀ a, (s.scan.area a).rescan = false → t.scan.area a = { phase := .idle, rescan := false })
    ∧ (∀ a, (s.scan.area a).rescan = true →
        ((∀ b, (s.scan.area b).rescan = true → a.index ≤ b.index) →
          t.scan.area a = { phase := .inFlight, rescan := false }
          ∧ t.scan.place = some a.firstPlace ∧ t.scan.lastScanned = a)
        ∧ (∀ b, (s.scan.area b).rescan = true → b.index < a.index →
          t.scan.area a = { phase := .requested, rescan := false }))
    ∧ (∀ k, k < 16 → let x := s.string k
        (x.settings.runRequest = true → x.state = .off →
          t.string k = { x with
            state := .powering, rate := x.settings.rateCode, driver := true, supply := true,
            settle := some x.settings.settleTime, hold := none }
          ∧ tget t.mir.dirty (1376 + k) false = true
          ∧ ∀ a ∈ x.schedule, a < 32 → t.panel (k * 32 + a) = Panel.initial)
        ∧ (x.settings.runRequest = false ∨ x.state ≠ .off → t.string k = x)))

/-- LIVE_TAKE in RUNNING: a no-change is not applied; a new configuration is applied as a whole, in the order of log
17 (the windows, purge, fire map and timers as the statements of those blocks give), or, where a check fails, in no
part; a torn one is counted and asked for again; a bus error leaves counts, verdict and settings and asks again (R28,
R36). At step 5 of LOADING: a bus error ends with BUS, a torn take or one out of range with RANGE, one whose routing
alone fails with ROUTING (its count is taken and its verdict is not, log 29), LOADING at rest in IDLE each time
(R22), and a clean one in range is taken whatever its count: settings, routes, windows and purge serial with no purge
made, every timer loaded with its START pending, and the zones formed from the new map (R23, R28, R89, R112, R130,
R133, R138, R173). That the end of the sequence is counted, with BOARD_LOST and presence moved, before the take is
applied or LOADING ends is log 51's choice. The eighth torn take in a row offers CELL_STUCK with source 1,536 and the
three counts, and an earlier one offers nothing (R31). What a string does as its settings are taken is what
StringsComeUpAndPark says of a run that has risen or fallen (R138, R139, R140, R143). -/
def Obligations.LiveTakeAppliesWholeOrNothing : Prop :=
  (∀ (lead again : Word32) (burst : List Byte) (s : State),
    s.flies .liveTake → s.dev.state = .running →
    ∃ t, exec (.liveTake (.read lead burst again)) s = .next t
      ∧ (tailOf burst = lead → again = lead →
          t.scan.liveTaken = lead ∧ t.scan.liveTorn = 0 ∧ tget t.mir.dirty 1400 false = true
          ∧ (lead = s.scan.liveTaken ∨ liveVerdictOf burst ≠ .accepted →
              OnlyIn [.scan, .port, .mir, .dpm] s t
              ∧ t.scan.liveVerdict =
                  if lead = s.scan.liveTaken then s.scan.liveVerdict else liveVerdictOf burst)
          ∧ (lead ≠ s.scan.liveTaken → liveVerdictOf burst = .accepted →
              t.scan.liveVerdict = .accepted
              ∧ (∀ k, k < 16 → (t.string k).settings = stringSettings burst k)
              ∧ (∀ k, k < 16 → (t.channel k).settings = timerSettings burst k)
              ∧ (∀ k, k < 4 → tget t.cst.windows k LockWindow.initial = lockWindow burst k)
              ∧ t.cst.purgeSerial = word32At burst (liveAt 0x01E4 + 4)
              ∧ (∀ r, r < 8 → (t.route r).enabled = (byteAt burst (liveAt 0x01F4)).getLsbD r)
              ∧ (∀ k, k < 40 → (t.entry k).mode = (routeEntry burst k).mode
                  ∧ (t.entry k).target = (routeEntry burst k).target
                  ∧ (t.entry k).mask = (routeEntry burst k).mask)
              ∧ (∀ k, k < 4 → ((t.line k).mapMask, (t.line k).mapItem) = fireEntry burst k)
              ∧ (let v := liveSettings burst
                 let u := countLive lead .accepted (endSequence true s)
                 t = endScan .live (each (List.range 16) (changeSettings v.strings)
                  (changeTimers v.timers (changeFireMap v.fireMap s.cst.windows v.windows
                    (takePurgeCell v.purgeBase v.purgeMask v.purgeSerial
                      (changeWindows v.windows (takeRouting v.table v.enables u)))))))))
      ∧ (¬ (tailOf burst = lead ∧ again = lead) →
          OnlyIn [.scan, .port, .mir, .dpm, .eru, .cause] s t
          ∧ t.scan.liveTaken = s.scan.liveTaken ∧ t.scan.liveVerdict = s.scan.liveVerdict
          ∧ t.scan.liveTorn = (if s.scan.liveTorn < 7 then s.scan.liveTorn + 1 else 0)
          ∧ (s.scan.liveTorn < 7 → SameEvents s t)
          ∧ (7 ≤ s.scan.liveTorn → SameEvents (offerClass .cellStuck 1536
              (leBytes 2 lead.toNat ++ leBytes 2 (tailOf burst).toNat ++ leBytes 2 again.toNat) s) t)
          ∧ (s.hdr.scanInterval ≠ 0 → t.scan.liveRetry = true)
          ∧ (s.hdr.scanInterval = 0 → (s.scan.area .live).phase = .inFlight →
              (t.scan.area .live).phase ≠ .idle)))
  ∧ (∀ s : State, s.flies .liveTake → s.dev.state = .running →
    ∃ t, exec (.liveTake .busError) s = .next t ∧ OnlyIn (.scan :: sequenceBlocks) s t
      ∧ t.scan.liveTaken = s.scan.liveTaken ∧ t.scan.liveTorn = s.scan.liveTorn
      ∧ t.scan.liveVerdict = s.scan.liveVerdict
      ∧ (∀ k, (t.string k).settings = (s.string k).settings)
      ∧ (∀ r, (t.route r).enabled = (s.route r).enabled)
      ∧ (s.hdr.scanInterval ≠ 0 → t.scan.liveRetry = true)
      ∧ (s.hdr.scanInterval = 0 → (s.scan.area .live).phase = .inFlight →
          (t.scan.area .live).phase ≠ .idle))
  ∧ (∀ (answer : TakeRead) (s : State), s.flies .liveTake → s.dev.state = .loading →
    let e := endSequence true s
    ∃ t, exec (.liveTake answer) s = .next t
      ∧ (answer = .busError → LoadingFails .bus (endSequence false s) t
          ∧ t.scan.liveTaken = s.scan.liveTaken ∧ t.scan.liveVerdict = s.scan.liveVerdict)
      ∧ (∀ lead burst again, answer = .read lead burst again →
          (¬ (tailOf burst = lead ∧ again = lead) → LoadingFails .range e t
            ∧ t.scan.liveTaken = s.scan.liveTaken ∧ t.scan.liveVerdict = s.scan.liveVerdict)
          ∧ (tailOf burst = lead → again = lead →
            t.scan.liveTaken = lead ∧ t.scan.liveTorn = 0
            ∧ (liveVerdictOf burst ≠ .accepted →
                LoadingFails (if liveVerdictOf burst = .routing then .routing else .range)
                  (e.withScan { e.scan with liveTaken := lead, liveTorn := 0 }) t
                ∧ t.scan.liveVerdict = s.scan.liveVerdict)
            ∧ (liveVerdictOf burst = .accepted →
                t.dev = { s.dev with load := .floorLabels } ∧ t.scan.liveVerdict = .accepted
                ∧ (∀ k, k < 16 →
                    t.string k = { s.string k with settings := stringSettings burst k })
                ∧ t.stc.panels = s.stc.panels
                ∧ t.cst = { s.cst with windows := t.cst.windows,
                                       purgeSerial := word32At burst (liveAt 0x01E4 + 4) }
                ∧ (∀ k, k < 4 → tget t.cst.windows k LockWindow.initial = lockWindow burst k)
                ∧ (∀ r, r < 8 → (t.route r).enabled = (byteAt burst (liveAt 0x01F4)).getLsbD r)
                ∧ (∀ k, k < 40 → (t.entry k).mode = (routeEntry burst k).mode
                    ∧ (t.entry k).target = (routeEntry burst k).target
                    ∧ (t.entry k).mask = (routeEntry burst k).mask)
                ∧ (∀ k, k < 4 → ((t.line k).mapMask, (t.line k).mapItem) = fireEntry burst k
                    ∧ (t.line k).asserted = (s.line k).asserted)
                ∧ (∀ z j, z < 32 → (j ∈ (t.zone z).sources ↔
                    j < 4 ∧ (s.line j).asserted = true ∧ (fireEntry burst j).1.getLsbD z = true))
                ∧ (∀ k, k < 16 → let x := timerSettings burst k
                    (t.channel k).settings = x ∧ (t.channel k).running = false
                    ∧ (t.channel k).phase = false ∧ (t.channel k).owed = 0
                    ∧ (k % 2 = 0 ∨ (timerSettings burst (k - 1)).cascade = false →
                      (t.channel k).pending = (if x.run then .start else .unset)
                      ∧ (t.channel k).count = x.reload
                        + if x.cascade then 256 * (timerSettings burst (k + 1)).reload else 0)
                    ∧ (k % 2 = 1 → (timerSettings burst (k - 1)).cascade = true →
                      (t.channel k).pending = .unset))))))
  ∧ (∀ (v : Vector StringSettings 16) (k : Nat) (s : State), k < 16 →
    changeSettings v k s = runChanged k ((s.string k).settings.runRequest && s.dev.state == .running)
      (s.setString k { s.string k with settings := tget v k StringSettings.initial }))

/-- STOPPING_END: when every string is OFF, no cell take is in flight whose outcome is to be applied (log 9), and
either BOARD_LOST has stood or the routes have closed and every record is written, the part enters IDLE with
STOPPED set, and LOADING at once if RUN is 1, by the START that a write of RUN from 0 to 1 makes in the IDLE so
entered; before that the command changes nothing (R22, R24; logs 1 and 8). At entry to IDLE the dirty set and the
fill queue are emptied, a FILL's slot EMPTY and a REFILL's as it was, the sequence in flight is to be discarded, the
check timer stops with no check pending, every receiver hunts and the scanner is at rest (R22, R38, R43, R137, R176;
log 9). -/
def Obligations.StoppingEndsAtRest : Prop :=
  ∀ s : State, ∃ t, exec .stoppingEnd s = .next t
    ∧ (s.dev.state = .stopping → (∀ k, k < 16 → (s.string k).state = .off) →
        (∀ f area cell, s.port.inFlight = some f → f.access = .cellTake area cell →
          f.discarded = true) →
        (s.dev.stopLost = true ∨
          (∀ r, r < 8 → (s.route r).stopped = true ∧ (s.route r).closing = none)
          ∧ (∀ i, tget s.mir.dirty i false = false)
          ∧ (∀ f i, s.port.inFlight = some f → f.access ≠ .mirrorWrite i)) →
        t.dev.state = (if s.win.runBit then .loading else .idle)
        ∧ t.cause = s.cause ||| 0x4000 ∧ t.win = s.win
        ∧ ∃ u, EntersIdle s u ∧ OnlyIn [.cause, .dev, .port, .scan, .mir, .clu, .cst, .dpm] s u
          ∧ u.dev = { s.dev with state := .idle, load := .outside } ∧ u.cause = s.cause ||| 0x4000
          ∧ (s.win.runBit = false → t = u)
          ∧ (s.win.runBit = true →
              exec (.run true) (u.withWin { u.win with runBit := false }) = .next t))
    ∧ (¬ (s.dev.state = .stopping ∧ (∀ k, k < 16 → (s.string k).state = .off)) → t = s)
    ∧ (∀ area cell, s.flies (.cellTake area cell) → t = s)
    ∧ (s.dev.stopLost = false →
        (∃ r, r < 8 ∧ ((s.route r).stopped = false ∨ (s.route r).closing.isSome = true))
          ∨ (∃ i, tget s.mir.dirty i false = true) → t = s)

/-! ## The Event Route Unit -/

/-- An event whose entry is OFF is refused and counted nowhere; one whose entry is SINGLE joins its target's
queue, or is refused and counted against the target (R90; a target at its stop point refuses by R106). -/
def Obligations.OffAndSingleEntries : Prop :=
  ∀ (k : Nat) (e : Event) (s : State), routingValid s → s.routesOffers = true → k < 40 →
    ((s.entry k).mode = .off → offerVia k e s = (s, none))
    ∧ ((s.entry k).mode = .single → (s.route (s.entry k).target).takes →
        (offerVia k e s).2 = some (s.entry k).target
        ∧ EventAccepted (s.entry k).target e s (offerVia k e s).1
        ∧ (offerVia k e s).1.eru.table = s.eru.table)
    ∧ ((s.entry k).mode = .single → ¬ (s.route (s.entry k).target).takes →
        (offerVia k e s).2 = none
        ∧ RefusalCounted (s.entry k).target s (offerVia k e s).1)

/-- An event whose entry is ROTATE goes to the first route of the mask after the cursor that can take it, and
the cursor moves there; if none can, it is refused, counted against the cursor's route, and the cursor
stands; a live take leaves every cursor at E0 (R91; a route at its stop point is passed over, log 13). The other kinds
of event are offered through the entry of their class, with ticket 0 and the device time as timestamp (R88), and
outside RUNNING, STOPPING and LOADING from step 5 every offer is discarded unseen (R87). -/
def Obligations.RotateEntries : Prop :=
  (∀ (k : Nat) (e : Event) (s : State), routingValid s → s.routesOffers = true → k < 40 →
    (s.entry k).mode = .rotate →
    (∀ r, r < 8 → (s.entry k).mask.getLsbD r = true → (s.route r).takes →
      (∀ q, q < 8 → (s.entry k).mask.getLsbD q = true → (s.route q).takes →
        routeDistance (s.entry k).cursor r ≤ routeDistance (s.entry k).cursor q) →
      (offerVia k e s).2 = some r ∧ EventAccepted r e s (offerVia k e s).1
      ∧ ((offerVia k e s).1.entry k = { s.entry k with cursor := r })
      ∧ (∀ j, j ≠ k → (offerVia k e s).1.entry j = s.entry j))
    ∧ ((∀ r, r < 8 → (s.entry k).mask.getLsbD r = true → ¬ (s.route r).takes) →
        (offerVia k e s).2 = none ∧ RefusalCounted (s.entry k).cursor s (offerVia k e s).1))
  ∧ (∀ (table : Vector RouteEntry 40) (enables : Byte) (s : State) (k : Nat),
    ((takeRouting table enables s).entry k).cursor = 0)
  ∧ (∀ (kind : EventKind) (source : Nat) (payload : List Byte) (s : State),
    kind ∉ [EventKind.destRequest, .destCancel, .answerLate] →
    let entry : Nat := match kind with
      | .carArrival => 32
      | .carLost | .carBack | .carMode => 33
      | .panelOffline | .panelBack | .panelType => 34
      | .stringState | .stringFault => 35
      | .contentFault | .pinRefused => 36
      | .presence => 37
      | .fireLine => 38
      | .cellStuck => 39
      | .destRequest | .destCancel | .answerLate => 0
    offerClass kind source payload s = (offerVia entry
      { kind := kind, cls := entry, source := source, ticket := 0, payload := payload,
        time := s.dev.time } s).1)
  ∧ (∀ (k : Nat) (e : Event) (s : State),
    ¬ (s.dev.state = .running ∨ s.dev.state = .stopping
        ∨ s.dev.state = .loading ∧ s.dev.load ∉ [LoadStep.outside, .header, .live]) →
    s.routesOffers = false ∧ offerVia k e s = (s, none))

/-- A DEST_CANCEL goes to the route the session recorded and an ANSWER_LATE to its retired route; a route
that cannot take it refuses and is counted; the routing table is neither read nor moved (R92). -/
def Obligations.CancelAndLateByAffinity : Prop :=
  ∀ (n r : Nat) (s : State), s.routesOffers = true → r < 8 → n < 128 →
    (∀ why, (s.session n).route = some r →
      (offerCancel n why s).eru.table = s.eru.table
      ∧ ((s.route r).takes → ∃ e : Event, e.kind = .destCancel ∧ e.ticket = (s.session n).ticket
          ∧ EventAccepted r e s (offerCancel n why s))
      ∧ (¬ (s.route r).takes → RefusalCounted r s (offerCancel n why s)))
    ∧ (∀ a, (s.session n).retiredRoute = some r → (s.session n).bound = true →
      (offerLate n a s).eru.table = s.eru.table
      ∧ ((s.route r).takes → ∃ e : Event, e.kind = .answerLate ∧ e.ticket = a.ticket
          ∧ (offerLate n a s).route r = { s.route r with staging := (s.route r).staging ++ [e] }
          ∧ (∀ q, q ≠ r → (offerLate n a s).route q = s.route q))
      ∧ (¬ (s.route r).takes → (offerLate n a s).cause = s.cause ||| 0x0100
          ∧ (∀ q, q ≠ r → (offerLate n a s).route q = s.route q)
          ∧ (offerLate n a s).route r = { s.route r with
              dropped := min 65535 ((s.route r).dropped + 1),
              droppedTotal := min 65535 ((s.route r).droppedTotal + 1) }))

/-- The rank of a route's work, by the table of R99, and the page engine's choice among the routes: the first
after the one served last with work of rank 1 to 5, else with work of rank 6 (R99). What its grant puts on the bus:
for an open write the 32 bytes of an OPEN header (R100); for a record write the event's 16 bytes into the place
after the records written, and then the new record count (R88, R101); for a close write the next address, the record
count, the reason, the dropped count, the close time and CLOSED last, in this order (R103); for a draw the read of
supply slot drawn count modulo 64 (R97). That the open and the close time are those of the grant is log 11's. -/
def Obligations.PageEngineChoosesByRank : Prop :=
  (∀ (r : Nat) (s : State),
      let x := s.route r
      let page := s.available ≠ 0
      s.rank r =
        if x.openPage ≠ none ∧ x.openWritten = false then some 1
        else if x.closing ≠ none ∧ x.successor = none ∧ page then some 2
        else if x.closing ≠ none then some 3
        else if x.staging ≠ [] ∧ x.openPage = none ∧ page then some 4
        else if x.openPage ≠ none ∧ x.records < 14 ∧ x.staging ≠ [] then some 5
        else if x.enabled = true ∧ s.dev.state ≠ .stopping ∧ x.openPage ≠ none ∧ x.successor = none
          ∧ page then some 6
        else none)
  ∧ (∀ (r k : Nat) (s : State), s.eru.lastServed < 8 → r < 8 → s.rank r = some k →
      (k ≤ 5 ∨ ∀ q j, q < 8 → s.rank q = some j → j = 6) →
      (∀ q j, q < 8 → s.rank q = some j → (k ≤ 5 → j ≤ 5) →
        routeDistance s.eru.lastServed r ≤ routeDistance s.eru.lastServed q) →
      s.engineRoute = some r)
  ∧ (∀ s : State, (∀ r, r < 8 → s.rank r = none) → s.engineRoute = none)
  ∧ (∀ (r k : Nat) (s : State), s.dev.state ≠ .idle → s.port.inFlight = none →
      (∀ b, (startClaim b s).isSome = true →
        claimantDistance s.port.lastGranted .pageEngine ≤ claimantDistance s.port.lastGranted b) →
      s.engineRoute = some r → s.rank r = some k →
      let x := s.route r
      let byte (n : Nat) : Byte := BitVec.ofNat 8 n
      let half (n : Nat) : List Byte := [byte n, byte (n / 256)]
      let word (n : Nat) : List Byte := half n ++ half (n / 65536)
      let zeros (n : Nat) : List Byte := List.replicate n 0
      let place (p : BitVec 40) (offset : Nat) : BitVec 64 := BitVec.ofNat 64 (256 * p.toNat + offset)
      ∃ a ops, exec .portGrant s = .next
          ((s.withEru { s.eru with lastServed := r }).withPort { s.port with
            inFlight := some { access := a, ops := ops, discarded := false },
            lastGranted := .pageEngine })
        ∧ (∀ p, k = 1 → x.openPage = some p → a = .openWrite r ∧ ops = [.write (place p 0)
            ([1, byte r, 0, 0] ++ word x.serial.toNat ++ zeros 8 ++ half x.chain.toNat ++ zeros 2
              ++ word s.dev.time.toNat ++ zeros 8)])
        ∧ (k = 2 ∨ k = 4 ∨ k = 6 → a = .pageDraw r (decide (k = 4))
            ∧ ops = [.read (s.dev.board + BitVec.ofNat 64 (0x0908 + 8 * (s.eru.drawn.toNat % 64))) 8])
        ∧ (∀ p why, k = 3 → x.openPage = some p → x.closing = some why →
            let next : Option (BitVec 40) := if why = .stop then none else x.successor
            let reason : Byte := match why with
              | .full => 1 | .age => 2 | .flush => 3 | .stop => 4
            a = .closeWrite r x.dropped next.isSome
            ∧ ops = [.write (place p 8) (match next with
                  | some q => [0] ++ leBytes 5 q.toNat ++ [0, 0]
                  | none => zeros 8),
                .write (place p 2) [byte x.records], .write (place p 3) [reason],
                .write (place p 18) (half x.dropped), .write (place p 24) (word s.dev.time.toNat),
                .write (place p 0) [2]])
        ∧ (∀ p e rest, k = 5 → x.openPage = some p → x.staging = e :: rest →
            a = .recordWrite r
            ∧ ops = [.write (place p (32 + 16 * x.records))
                ([byte e.kind.code, byte e.cls] ++ half e.source ++ half e.ticket ++ padTo 6 e.payload
                  ++ word e.time.toNat),
              .write (place p 2) [byte (x.records + 1)]]))
  ∧ (∀ p ∈ [(EventKind.destRequest, 0x01), (.destCancel, 0x02), (.answerLate, 0x03), (.carArrival, 0x10),
        (.carLost, 0x11), (.carBack, 0x12), (.carMode, 0x13), (.panelOffline, 0x20), (.panelBack, 0x21),
        (.panelType, 0x22), (.stringState, 0x30), (.stringFault, 0x31), (.contentFault, 0x40),
        (.pinRefused, 0x41), (.presence, 0x50), (.fireLine, 0x60), (.cellStuck, 0x70)],
      p.1.code = p.2)

/-- PAGE_DRAW: a slot that names a page places it as open page, starting a chain, or as successor, and a slot of
zeros is passed over; OPEN_WRITE and RECORD_WRITE mark the page written OPEN, or take the event off the head
of the queue and count the record, the fourteenth making a FULL close pending; a failure leaves each as it
stood (R97, R100, R101, R105). -/
def Obligations.PageDrawsAndWrites : Prop :=
  (∀ (answer : Option (BitVec 64)) (r : Nat) (asOpen : Bool) (s : State),
    s.flies (.pageDraw r asOpen) → r < 8 →
    ∃ t, exec (.pageDraw answer) s = .next t
      ∧ (answer = none → t = endSequence false s)
      ∧ (∀ slot, answer = some slot →
          OnlyIn [.eru, .mir] (endSequence true s) t ∧ t.eru.drawn = s.eru.drawn + 1
          ∧ t.eru.lastRead = s.eru.lastRead ∧ t.eru.table = s.eru.table
          ∧ tget t.mir.dirty 1400 false = true
          ∧ (∀ q, q ≠ r → t.route q = s.route q)
          ∧ (slot.extractLsb' 8 40 = 0 → t.route r = s.route r)
          ∧ (slot.extractLsb' 8 40 ≠ 0 → tget t.mir.dirty (1392 + r) false = true
              ∧ t.route r = if asOpen then
                  { s.route r with openPage := some (slot.extractLsb' 8 40), openWritten := false,
                                   records := 0, closing := none, chain := (s.route r).chain + 1,
                                   chainHead := some (slot.extractLsb' 8 40) }
                else { s.route r with successor := some (slot.extractLsb' 8 40) })))
  ∧ (∀ (ok : Bool) (r : Nat) (s : State), r < 8 →
    (s.flies (.openWrite r) → ∃ t, exec (.openWrite ok) s = .next t
      ∧ (ok = false → t = endSequence false s)
      ∧ (ok = true → OnlyIn [.eru] (endSequence true s) t
          ∧ (∀ q, q ≠ r → t.route q = s.route q)
          ∧ t.route r = { s.route r with openWritten := true }))
    ∧ (s.flies (.recordWrite r) → ∃ t, exec (.recordWrite ok) s = .next t
      ∧ (ok = false → t = endSequence false s)
      ∧ (ok = true → OnlyIn [.eru] (endSequence true s) t
          ∧ (∀ q, q ≠ r → t.route q = s.route q)
          ∧ t.route r = { s.route r with
              staging := (s.route r).staging.drop 1, records := (s.route r).records + 1,
              firstTime := if (s.route r).records = 0 then s.dev.time else (s.route r).firstTime,
              closing := if (s.route r).closing = none ∧ (s.route r).records + 1 = 14 then some .full
                         else (s.route r).closing })))

/-- CLOSE_WRITE: a success frees the page, raises the serial, lowers the dropped count by what the write
carried, sets ROUTEn, and promotes the successor that the write named; a failure leaves the close pending
(R103, R105). -/
def Obligations.CloseWritePromotesSuccessor : Prop :=
  ∀ (ok : Bool) (r carried : Nat) (toSuccessor : Bool) (s : State), r < 8 →
    s.flies (.closeWrite r carried toSuccessor) →
    ∃ t, exec (.closeWrite ok) s = .next t
      ∧ (ok = false → t = endSequence false s)
      ∧ (ok = true → OnlyIn [.eru, .cause, .mir] (endSequence true s) t
          ∧ t.cause = (endSequence true s).cause ||| BitVec.ofNat 15 (2 ^ r)
          ∧ tget t.mir.dirty (1392 + r) false = true
          ∧ (∀ q, q ≠ r → t.route q = s.route q)
          ∧ t.route r = { s.route r with
              openPage := if toSuccessor then (s.route r).successor else none, openWritten := false,
              records := 0, closing := none,
              successor := if toSuccessor then none else (s.route r).successor,
              serial := (s.route r).serial + 1, dropped := (s.route r).dropped - carried })

/-- FLUSH_AGE_EXPIRY and NUDGE_FLUSH make a close pending on an open page that holds records and has none pending,
with reason AGE or, on every route at once, FLUSH (R102). ROUTE_STOP_POINT: with every string OFF, a route with
nothing staged, or with staged events and neither an open page that can take them nor a page to draw, discards and
counts what it still holds, its mirror record marked where it holds something (R93, R108), and its page with records
gets a STOP close unless one is pending; with staged events and an open page that can take them or a page to draw it
changes nothing (R106); while its own record write is in flight it waits (log 13). That FLUSH_AGE_EXPIRY changes
nothing before its time and ROUTE_STOP_POINT nothing outside its condition rests on logs 3 and 1. -/
def Obligations.ClosesBecomePending : Prop :=
  ((∀ (r : Fin 8) (s : State), ∃ t, exec (.flushAgeExpiry r) s = .next t
      ∧ (s.dev.state ≠ .idle → (s.route r.val).openPage ≠ none → 0 < (s.route r.val).records →
          (s.route r.val).closing = none →
          s.hdr.flushAge ≤ (s.dev.time - (s.route r.val).firstTime).toNat →
          t.route r.val = { s.route r.val with closing := some .age }
          ∧ (∀ q, q ≠ r.val → t.route q = s.route q) ∧ OnlyIn [.eru] s t)
      ∧ ((s.route r.val).closing ≠ none ∨ (s.route r.val).records = 0 ∨ s.dev.state = .idle
          ∨ (s.dev.time - (s.route r.val).firstTime).toNat < s.hdr.flushAge → t = s))
  ∧ (∀ s : State, s.dev.state = .running → ∃ t, exec .nudgeFlush s = .next t ∧ OnlyIn [.eru] s t
      ∧ t.eru.table = s.eru.table
      ∧ ∀ r, r < 8 → t.route r =
          if (s.route r).openPage ≠ none ∧ 0 < (s.route r).records ∧ (s.route r).closing = none then
            { s.route r with closing := some .flush }
          else s.route r))
  ∧ (∀ (r : Fin 8) (s : State), ∃ t, exec (.routeStopPoint r) s = .next t
    ∧ (s.dev.state = .stopping → (∀ k, k < 16 → (s.string k).state = .off) →
        (s.route r.val).stopped = false →
        (∀ f, s.port.inFlight = some f → f.access ≠ .recordWrite r.val) →
        ((s.route r.val).staging = [] ∨
          ((s.route r.val).openPage = none ∨ (s.route r.val).closing ≠ none
              ∨ 14 ≤ (s.route r.val).records) ∧ s.available = 0) →
        OnlyIn [.eru, .mir, .cause] s t ∧ (∀ q, q ≠ r.val → t.route q = s.route q)
        ∧ ((s.route r.val).staging ≠ [] →
            t.cause = s.cause ||| 0x0100 ∧ tget t.mir.dirty (1392 + r.val) false = true)
        ∧ ((s.route r.val).staging = [] → OnlyIn [.eru] s t)
        ∧ ((s.route r.val).dropped ≤ 65535 → (s.route r.val).droppedTotal ≤ 65535 →
            t.route r.val = { s.route r.val with
              staging := [], stopped := true,
              dropped := min 65535 ((s.route r.val).dropped + (s.route r.val).staging.length),
              droppedTotal :=
                min 65535 ((s.route r.val).droppedTotal + (s.route r.val).staging.length),
              closing := if (s.route r.val).openPage ≠ none ∧ 0 < (s.route r.val).records
                  ∧ (s.route r.val).closing = none then some .stop else (s.route r.val).closing }))
    ∧ (s.dev.state ≠ .stopping ∨ (s.route r.val).stopped = true
        ∨ (∃ k, k < 16 ∧ (s.string k).state ≠ .off)
        ∨ (∃ f, s.port.inFlight = some f ∧ f.access = .recordWrite r.val)
        ∨ ((s.route r.val).staging ≠ [] ∧
          ((s.route r.val).openPage ≠ none ∧ (s.route r.val).closing = none ∧ (s.route r.val).records < 14
            ∨ s.available ≠ 0)) → t = s))

/-! ## Presence -/

/-- PRESENCE_CHECK_EXPIRY: in RUNNING and STOPPING the timer starts again and one check stands pending (before its
time nothing changes, log 3). HEARTBEAT_READ: the check is no longer pending, the count last seen follows a
successful read, and presence moves by the table of R177, after the read's own success or failure has been
counted (R176, R177; that a failure is counted first is log 50's choice). Beside those fields, and the device record's
mark where the count last seen changes, the command leaves every block as the end of its sequence left it, or, where
the check itself moves presence, as `changePresence` then leaves it (R178; DetachedSessionsFallBack). -/
def Obligations.HeartbeatMovesPresence : Prop :=
  (∀ s : State, ∃ t, exec .presenceCheckExpiry s = .next t
    ∧ ((s.dev.state = .running ∨ s.dev.state = .stopping) → s.dpm.timer = some 0 →
        OnlyIn [.dpm] s t
        ∧ t.dpm = { s.dpm with timer := some s.hdr.checkInterval, checkPending := true })
    ∧ (s.dev.state = .idle ∨ s.dev.state = .loading ∨ s.dpm.timer ≠ some 0 → t = s))
  ∧ (∀ (answer : WordRead) (s : State), s.flies .heartbeatRead →
    ∃ t, exec (.heartbeatRead answer) s = .next t
      ∧ (let d : Dpm := { (endSequence answer.isSome s).dpm with
            checkPending := false, lastSeen := answer.getD s.dpm.lastSeen }
         let changed : Bool := answer.any fun v => v != s.dpm.lastSeen
         let counted : Dpm :=
          if s.hdr.reattachCount ≤ d.changed + 1 then
            { d with presence := .attached, unchanged := 0, changed := 0 }
          else { d with changed := d.changed + 1 }
         t.dpm =
          match d.presence, changed with
          | .waitingFirst, true => { d with presence := .attached, unchanged := 0, changed := 0 }
          | .waitingFirst, false => d
          | .attached, true => { d with unchanged := 0 }
          | .attached, false =>
            if s.hdr.detachCount ≤ d.unchanged + 1 then
              { d with presence := .detachedHeartbeat, unchanged := 0, changed := 0 }
            else { d with unchanged := d.unchanged + 1 }
          | .detachedHeartbeat, true => counted
          | .detachedBoard, true =>
            if s.port.boardLost = true ∨ d.counting = false then { d with counting := true } else counted
          | .detachedHeartbeat, false | .detachedBoard, false => { d with changed := 0 })
      ∧ (t.dpm.presence ≠ s.dpm.presence →
          t.cause.getLsbD 9 = true ∧ tget t.mir.dirty 1400 false = true)
      ∧ (t.dpm.lastSeen ≠ s.dpm.lastSeen → tget t.mir.dirty 1400 false = true)
      ∧ (let e := endSequence answer.isSome (s.withDpm { s.dpm with checkPending := false })
         let seen := e.withDpm { e.dpm with lastSeen := answer.getD s.dpm.lastSeen }
         let after := seen.withMir { e.mir with
          dirty := if answer.getD s.dpm.lastSeen = s.dpm.lastSeen then e.mir.dirty
                   else tset e.mir.dirty 1400 true }
         (t.dpm.presence = e.dpm.presence → OnlyIn [.dpm] after t)
         ∧ (t.dpm.presence ≠ e.dpm.presence → t = changePresence t.dpm.presence after)))

/-- When presence leaves ATTACHED every WAITING session falls back with reason DETACHED, its ticket retired as
withdrawn and its hold time started, and no DEST_CANCEL is offered for it; every other session stands; a return to
ATTACHED changes none; and while presence is not ATTACHED no step makes a session WAITING (R82). The leave also
clears every lantern's expected count, in STOPPING too (log 42), and an EXPECTED lantern turns DARK (R60), its
display's recomposition asked where it changes (R9, R55; the reason of an earlier ask stands, log 12). A change to
DETACHED from ATTACHED or WAITING_FIRST sets every host part of NOTICE or SERVICE to NONE, and where zones are formed
those zones follow by R115; one from DETACHED(HEARTBEAT) tells no block. At a return to ATTACHED no zone changes, and
where zones are formed the displays of the zones of NOTICE and SERVICE are recomposed and their panels marked urgent
while their strings' lists have room (R118, R178, R109, R117). A change of presence: the new value, both counts 0,
the counting stopped at DETACHED(BOARD); the notices in the order sessions, lanterns, zones; then PRESENCE with the
old and new codes and the failure count, the cause bit and the device record's mark (R177, R178). -/
def Obligations.DetachedSessionsFallBack : Prop :=
  (∀ s : State, OnlyIn [.drq, .cmp, .mir] s (sessionsDetached s)
      ∧ (sessionsDetached s).drq.lastTicket = s.drq.lastTicket
      ∧ ∀ n, (sessionsDetached s).session n =
          if (s.session n).state = .waiting then
            { s.session n with
              state := .fallback, fallback := .detached, access := false,
              timer := some (s.hdr.holdTime * 1000), retiredTicket := (s.session n).ticket,
              retiredRoute := (s.session n).route, retiredKind := .withdrawn, withdrawal := .detached,
              ticket := 0, route := none, redirected := false }
          else s.session n)
  ∧ (∀ s : State, OnlyIn [.clu, .cmp] s (lanternsDetached s)
      ∧ RecompositionAsked (lanternAsk s (lanternsDetached s)) s (lanternsDetached s))
  ∧ (∀ (new : Presence) (s : State), s.dpm.presence = .attached → new ≠ .attached →
      (changePresence new s).dpm.presence = new
      ∧ (∀ n, ((changePresence new s).session n).state ≠ .waiting)
      ∧ (changePresence new s).clu.cars = s.clu.cars ∧ (changePresence new s).clu.links = s.clu.links
      ∧ ∀ d, (changePresence new s).lantern d = (s.lantern d).map fun l =>
          { l with expected := 0, state := if l.state = .expected then .dark else l.state })
  ∧ (∀ (new : Presence) (s : State), s.dpm.presence ≠ new → new ≠ .attached →
      let t := changePresence new s
      t.ovr.lines = s.ovr.lines ∧ t.ovr.flags = s.ovr.flags
      ∧ (s.dpm.presence ≠ .attached → t.clu = s.clu ∧ (s.formsZones = false → t.drq = s.drq))
      ∧ (s.dpm.presence ≠ .attached → s.dpm.presence ≠ .waitingFirst →
          OnlyIn (.dpm :: offerBlocks) s t)
      ∧ (s.dpm.presence = .attached ∨ s.dpm.presence = .waitingFirst → ∀ z, z < 32 →
          let x := s.zone z
          let low : Prop := x.hostPriority = .notice ∨ x.hostPriority = .service
          (¬ low → t.zone z = x)
          ∧ (low → (t.zone z).hostPriority = .clear ∧ (t.zone z).hostItem = none
              ∧ (t.zone z).sources = x.sources
              ∧ (s.formsZones = false → (t.zone z).priority = x.priority ∧ (t.zone z).item = x.item)
              ∧ (s.formsZones = true → x.sources = [] →
                  (t.zone z).priority = .clear ∧ (t.zone z).item = none)
              ∧ (∀ l rest, s.formsZones = true → x.sources = l :: rest →
                  (t.zone z).priority = .evacuate ∧ (t.zone z).item = some (s.line l).resolved))))
  ∧ (∀ s : State,
      let t := changePresence .attached s
      let told (d : Nat) : Prop := (s.display d).status = .bound ∧
        ((s.zone (s.display d).zone).priority = .notice ∨ (s.zone (s.display d).zone).priority = .service)
      t.drq = s.drq ∧ t.ovr = s.ovr ∧ t.clu = s.clu
      ∧ (s.formsZones = false → OnlyIn (.dpm :: offerBlocks) s t)
      ∧ (s.formsZones = true → ∀ d, d < 512 → (s.display d).zone < 32 → told d →
          (t.comp d).asked ≠ none)
      ∧ (s.dev.state ≠ .running → t.stc = s.stc)
      ∧ t.stc.panels = s.stc.panels
      ∧ (∀ k, ∃ added, t.string k = { s.string k with urgent := (s.string k).urgent ++ added }
          ∧ ∀ a ∈ added, ∃ d, d < 512 ∧ told d ∧ (s.display d).string = k ∧ (s.display d).address = a)
      ∧ (s.dev.state = .running → ∀ d, d < 512 → (s.display d).zone < 32 → told d →
          let r := s.display d
          let x := s.string r.string
          x.state = .running → r.address ∈ x.schedule →
          (s.panel (r.string * 32 + r.address)).health ≠ .offline →
          r.address ∈ (t.string r.string).urgent ∨ 8 ≤ (t.string r.string).urgent.length))
  ∧ (∀ (new : Presence) (s : State),
    let old := s.dpm.presence
    let moved := s.withDpm { s.dpm with
      presence := new, unchanged := 0, changed := 0,
      counting := if new = .detachedBoard then false else s.dpm.counting }
    let told := if new = .attached then overridesAttached moved
      else match old with
        | .attached => overridesDetached (lanternsDetached (sessionsDetached moved))
        | .waitingFirst => overridesDetached moved
        | .detachedHeartbeat | .detachedBoard => moved
    let offered := offerClass .presence 0
      [BitVec.ofNat 8 old.code, BitVec.ofNat 8 new.code, BitVec.ofNat 8 s.port.failures] told
    changePresence new s = (offered.withCause (offered.cause ||| 0x0200)).withMir
      { offered.mir with dirty := tset offered.mir.dirty 1400 true })
  ∧ (∀ (s t : State), sessionsNeedPresence s → step s = .next t → sessionsNeedPresence t)

/-! ## Cars and lanterns -/

/-- CAR_TELEGRAM: a whole telegram that passes the checks of R44 and is no duplicate replaces its car's record,
counts a gap, marks the mirror and moves the lanterns of its car by arrival or departure (R44, R46, R50, R51, R56,
R57). It asks recomposition of the CAR_POSITION displays bound to the car, of the LOBBY_OVERVIEW displays that list
it, and of the displays whose lanterns it changes, no plan or stamp changed (R9, R45, R55; the reason of an earlier
ask stands, log 12). The events it offers, in the order of R52: CAR_BACK of a lost car, CAR_MODE of a changed mode
(its floors are the telegram's, log 25), and a CAR_ARRIVAL for each deck that arrives, the lower first (R48, R49,
R50, R52, R53). -/
def Obligations.TelegramUpdatesItsCar : Prop :=
  ∀ (link : Fin 8) (header : Byte) (data : List Byte) (m : Telegram) (s : State),
    s.dev.state = .running → data.length = 6 → (s.link link.val).receiver = .hunt →
    telegramFields data = some m → s.hdr.carMask.getLsbD (carOf link header) = true →
    ((s.car (carOf link header)).state = .unheard
      ∨ m.sequence ≠ (s.car (carOf link header)).sequence) →
    ∃ t, exec (.carTelegram link (carTelegramChars header data)) s = .next t
      ∧ OnlyIn [.clu, .cmp, .eru, .cause, .mir] s t
      ∧ (∀ l, t.link l = s.link l) ∧ t.clu.floorLabels = s.clu.floorLabels
      ∧ (∀ c, c ≠ carOf link header → t.car c = s.car c)
      ∧ (let x := s.car (carOf link header)
         t.car (carOf link header) =
          { state := .fresh, lower := m.lower, upper := m.upper,
            lowerShown := if m.lower ≤ 253 then some m.lower else x.lowerShown,
            upperShown := if m.upper ≤ 253 then some m.upper
                          else if m.upper = 0xFF then none else x.upperShown,
            motion := m.motion, direction := m.direction, door := m.door, mode := m.mode,
            full := m.full, sequence := m.sequence,
            gaps := if x.state = .unheard ∨ m.sequence = (x.sequence + 1) % 256 then x.gaps
                    else min 255 (x.gaps + 1),
            lastTime := s.dev.time })
      ∧ tget t.mir.dirty (800 + carOf link header) false = true
      ∧ (let x := s.car (carOf link header)
         let arrives := x.state ≠ .unheard ∧ m.motion = .stopped ∧ m.door = .opening
            ∧ (x.motion ≠ .stopped ∨ x.door = .closed)
         let departs := x.state ≠ .unheard ∧ m.motion = .moving ∧ x.motion ≠ .moving
         ∀ d, d < 512 → t.lantern d = (s.lantern d).map fun l =>
          if l.car ≠ carOf link header then l
          else if arrives ∧ l.floor ≤ 253 ∧ (l.floor = m.lower ∨ l.floor = m.upper) then
            { l with state := .arriving, remaining := some (s.hdr.lanternTime * 1000), expected := 0,
                     direction := m.direction }
          else if departs ∧ l.state = .arriving then
            { l with state := if 0 < l.expected then .expected else .dark, remaining := none,
                     direction := .still }
          else l)
      ∧ RecompositionAsked (fun d => (lanternAsk s t d).or (carAsk (carOf link header) s d)) s t
      ∧ (let x := s.car (carOf link header)
         let byte (n : Nat) : Byte := BitVec.ofNat 8 n
         let back (u : State) : State :=
          if x.state = .lost then
            offerClass .carBack (carOf link header)
              [byte m.lower, byte m.upper, byte m.mode.code, byte m.sequence] u
          else u
         let mode (u : State) : State :=
          if x.state ≠ .unheard ∧ m.mode ≠ x.mode then
            offerClass .carMode (carOf link header)
              [byte x.mode.code, byte m.mode.code, byte m.lower, byte m.upper] u
          else u
         let arrival (deck floor : Nat) (u : State) : State :=
          if x.state ≠ .unheard ∧ m.motion = .stopped ∧ m.door = .opening
              ∧ (x.motion ≠ .stopped ∨ x.door = .closed) ∧ floor ≤ 253 then
            offerClass .carArrival (carOf link header)
              [byte deck, byte floor, byte m.direction.code, byte m.door.code, byte m.mode.code,
               if m.full then 1 else 0] u
          else u
         SameEvents (arrival 1 m.upper (arrival 0 m.lower (mode (back s)))) t)

/-- A telegram that fails its check, holds a field outside its table, or names a car outside the mask is dropped
and counted once against its link, a duplicate changes nothing, and neither touches a car; outside RUNNING
every character is discarded. CAR_TELEGRAM_BROKEN: in COLLECTING a marker drops the telegram in progress and
opens a new one, and a missing stop bit drops it and returns the receiver to HUNT; each is counted once
(R43, R44, R46). -/
def Obligations.DroppedTelegramsAreCounted : Prop :=
  ((∀ (link : Fin 8) (header : Byte) (data : List Byte) (check : Byte) (s : State),
      s.dev.state = .running → data.length = 6 → (s.link link.val).receiver = .hunt →
      ∃ t, exec (.carTelegram link
          ({ data := header, marker := true, stop := true } ::
            (data ++ [check]).map fun b => { data := b, marker := false, stop := true })) s = .next t
        ∧ (check ≠ crc8 (header :: data) ∨ telegramFields (data ++ [check]) = none
              ∨ s.hdr.carMask.getLsbD (carOf link header) = false →
            OnlyIn [.clu] s t ∧ t.clu.cars = s.clu.cars ∧ t.clu.lanterns = s.clu.lanterns
            ∧ t.link link.val = { receiver := .hunt, errors := min 65535 ((s.link link.val).errors + 1) }
            ∧ (∀ l, l ≠ link.val → t.link l = s.link l))
        ∧ (∀ m, check = crc8 (header :: data) → telegramFields (data ++ [check]) = some m →
            s.hdr.carMask.getLsbD (carOf link header) = true →
            (s.car (carOf link header)).state ≠ .unheard →
            m.sequence = (s.car (carOf link header)).sequence → t = s))
  ∧ (∀ (link : Fin 8) (chars : List LineChar) (s : State), s.dev.state ≠ .running →
      exec (.carTelegram link chars) s = .next s))
  ∧ (∀ (link : Fin 8) (char : LineChar) (header : Byte) (data : List Byte) (s : State),
    s.dev.state = .running → (s.link link.val).receiver = .collecting header data →
    (char.marker = true ∨ char.stop = false) →
    ∃ t, exec (.carTelegramBroken link char) s = .next t ∧ OnlyIn [.clu] s t
      ∧ t.clu.cars = s.clu.cars ∧ t.clu.lanterns = s.clu.lanterns
      ∧ (∀ l, l ≠ link.val → t.link l = s.link l)
      ∧ t.link link.val = {
          receiver := if char.stop then .collecting char.data [] else .hunt,
          errors := min 65535 ((s.link link.val).errors + 1) })

/-- CAR_STALE_EXPIRY and CAR_LOST_EXPIRY: the silence timers of R47 make a FRESH car STALE and any configured car
LOST, and a loss darkens the car's lanterns and offers CAR_LOST with the car's last floors, its gap count and its
link's error count; going STALE offers nothing (R47, R53, R60). Both ask recomposition of the displays that show the
car's record, and a loss of those whose lanterns it changes (R9, R45, R55; the reason of an earlier ask stands, log
12). -/
def Obligations.SilentCarsGoStaleAndLost : Prop :=
  (∀ (car : Fin 64) (s : State), ∃ t, exec (.carStaleExpiry car) s = .next t
      ∧ (s.dev.state = .running → (s.car car.val).state = .fresh →
          s.hdr.carStaleTime ≤ (s.dev.time - (s.car car.val).lastTime).toNat →
          OnlyIn [.clu, .cmp, .mir] s t ∧ t.car car.val = { s.car car.val with state := .stale }
          ∧ (∀ c, c ≠ car.val → t.car c = s.car c) ∧ t.clu.lanterns = s.clu.lanterns
          ∧ tget t.mir.dirty (800 + car.val) false = true
          ∧ RecompositionAsked (carAsk car.val s) s t)
      ∧ ((s.car car.val).state ≠ .fresh ∨ s.dev.state ≠ .running → t = s))
  ∧ (∀ (car : Fin 64) (s : State), ∃ t, exec (.carLostExpiry car) s = .next t
      ∧ (s.dev.state = .running → s.hdr.carMask.getLsbD car.val = true →
          (s.car car.val).state ≠ .lost →
          s.hdr.carLostTime * 1000 ≤ (s.dev.time - (s.car car.val).lastTime).toNat →
          OnlyIn [.clu, .cmp, .eru, .cause, .mir] s t
          ∧ t.car car.val = { s.car car.val with state := .lost }
          ∧ (∀ c, c ≠ car.val → t.car c = s.car c)
          ∧ tget t.mir.dirty (800 + car.val) false = true
          ∧ (∀ d, d < 512 → t.lantern d = (s.lantern d).map fun l =>
              if l.car = car.val then
                { l with expected := 0, state := .dark, remaining := none, direction := .still }
              else l)
          ∧ RecompositionAsked (fun d => (lanternAsk s t d).or (carAsk car.val s d)) s t
          ∧ SameEvents (offerClass .carLost car.val
              ([BitVec.ofNat 8 (s.car car.val).lower, BitVec.ofNat 8 (s.car car.val).upper,
                BitVec.ofNat 8 (s.car car.val).gaps] ++ leBytes 2 (s.link (car.val / 8)).errors) s) t)
      ∧ ((s.car car.val).state = .lost ∨ s.dev.state ≠ .running
          ∨ s.hdr.carMask.getLsbD car.val = false → t = s))

/-- A lantern in ARRIVING leaves it at the expiry of its lantern time or at a departure of its car,
whichever comes first, for EXPECTED when its count is above 0 and else for DARK, with direction NONE; in
another state neither changes it (R57); the expiry asks recomposition of its display alone, where the display is
BOUND (R9, R55; the reason of an earlier ask stands, log 12). -/
def Obligations.LanternLeavesArriving : Prop :=
  (∀ (d : Fin 512) (l : Lantern) (s : State), s.lantern d.val = some l →
      ∃ t, exec (.lanternTimeExpiry d) s = .next t
        ∧ (s.dev.state = .running → l.state = .arriving → l.remaining = some 0 →
            OnlyIn [.clu, .cmp] s t ∧ t.clu.cars = s.clu.cars ∧ t.clu.links = s.clu.links
            ∧ (∀ e, e ≠ d.val → t.lantern e = s.lantern e)
            ∧ t.lantern d.val = some { l with
                state := if 0 < l.expected then .expected else .dark, remaining := none,
                direction := .still }
            ∧ RecompositionAsked (lanternAsk s t) s t)
        ∧ (l.state ≠ .arriving → t = s))
  ∧ (∀ (link : Fin 8) (header : Byte) (data : List Byte) (m : Telegram) (d : Nat) (l : Lantern)
        (s t : State),
      s.dev.state = .running → data.length = 6 → (s.link link.val).receiver = .hunt →
      telegramFields data = some m → s.hdr.carMask.getLsbD (carOf link header) = true →
      (s.car (carOf link header)).state ≠ .unheard →
      m.sequence ≠ (s.car (carOf link header)).sequence →
      m.motion = .moving → (s.car (carOf link header)).motion ≠ .moving →
      d < 512 → s.lantern d = some l → l.car = carOf link header →
      exec (.carTelegram link (carTelegramChars header data)) s = .next t →
      (l.state = .arriving → t.lantern d = some { l with
          state := if 0 < l.expected then .expected else .dark, remaining := none, direction := .still })
      ∧ (l.state ≠ .arriving → t.lantern d = some l))

/-- The expectation timer of a lantern whose count is above 0 runs from its last increment; its expiry clears the
count and darkens an EXPECTED lantern and leaves an ARRIVING one; a raise renews the time, and an arrival clears the
count and so stops the timer (R58, R59). The expiry and a raise ask recomposition of the displays whose lanterns they
change (R9, R55; the reason of an earlier ask stands, log 12). That the expiry changes nothing before its time, and
stays due after it until it is taken, is log 3's reading, and that a raise in STOPPING acts as in RUNNING is log 41's
choice. -/
def Obligations.ExpectationTimerClearsCount : Prop :=
  (∀ (d : Fin 512) (l : Lantern) (s : State), s.lantern d.val = some l →
      ∃ t, exec (.expectationExpiry d) s = .next t
        ∧ (s.dev.state = .running → 0 < l.expected →
            s.hdr.expectationTimeout * 1000 ≤ (s.dev.time - l.lastIncrement).toNat →
            OnlyIn [.clu, .cmp] s t ∧ t.clu.cars = s.clu.cars ∧ t.clu.links = s.clu.links
            ∧ (∀ e, e ≠ d.val → t.lantern e = s.lantern e)
            ∧ t.lantern d.val = some { l with
                expected := 0, state := if l.state = .expected then .dark else l.state }
            ∧ RecompositionAsked (lanternAsk s t) s t)
        ∧ (l.expected = 0 ∨ (s.dev.time - l.lastIncrement).toNat < s.hdr.expectationTimeout * 1000 →
            t = s))
  ∧ (∀ (car floor d : Nat) (l : Lantern) (s : State), s.lantern d = some l → d < 512 →
      l.car = car → l.floor = floor → (s.car car).state ≠ .lost → s.dpm.presence = .attached →
      (assignLanterns car floor s).lantern d = some { l with
        expected := min 15 (l.expected + 1), lastIncrement := s.dev.time,
        state := if l.state = .dark then .expected else l.state })
  ∧ (∀ (car floor : Nat) (s : State), let t := assignLanterns car floor s
      OnlyIn [.clu, .cmp] s t ∧ t.clu.cars = s.clu.cars ∧ t.clu.links = s.clu.links
      ∧ RecompositionAsked (lanternAsk s t) s t)
  ∧ (∀ (time : Nat) (direction : Direction) (l : Lantern), (l.arrive time direction).expected = 0)

/-! ## The Destination Request Unit -/

/-- Keys and the entry timer in IDLE and ENTERING: digits join up to three, ACCESS sets the flag where the
record allows it and is discarded where it does not, CLEAR and the timer's expiry end the entry, and ENTER is
discarded in IDLE (R67, R68; the ENTER of R69 in ENTERING is the statement EnterRequestsADestination's). That
ENTRY_TIMEOUT_EXPIRY changes nothing when it is not due is log 3's reading. -/
def Obligations.EntryKeysAndTimeout : Prop :=
  (∀ (n d : Nat) (s : State), n < 128 →
      (∀ m, m ≠ n → (applyKey n (.digit d) s).session m = s.session m)
      ∧ ((s.session n).state = .idle → (applyKey n (.digit d) s).session n =
          { s.session n with
            state := .entering, digits := [d], timer := some (s.hdr.entryTimeout * 1000) })
      ∧ ((s.session n).state = .entering → (applyKey n (.digit d) s).session n =
          if (s.session n).digits.length < 3 then
            { s.session n with
              digits := (s.session n).digits ++ [d], timer := some (s.hdr.entryTimeout * 1000) }
          else s.session n)
      ∧ ((s.session n).state = .idle ∨ (s.session n).state = .entering →
          (applyKey n .access s).session n =
            (if (s.recordOf (s.session n)).assist then
              { s.session n with access := true, timer := some (s.hdr.entryTimeout * 1000) }
            else s.session n)
          ∧ (applyKey n .clear s).session n =
            (if (s.session n).state = .idle then { s.session n with access := false, timer := none }
            else { s.session n with state := .idle, digits := [], access := false, timer := none }))
      ∧ ((s.session n).state = .idle → applyKey n .enter s = s))
  ∧ (∀ (n : Fin 128) (s : State), ∃ t, exec (.entryTimeoutExpiry n) s = .next t
      ∧ (s.dev.state = .running → (s.session n.val).timer = some 0 →
          ((s.session n.val).state = .idle ∨ (s.session n.val).state = .entering) →
          OnlyIn [.drq, .cmp, .mir] s t ∧ t.drq.lastTicket = s.drq.lastTicket
          ∧ (∀ m, m ≠ n.val → t.session m = s.session m)
          ∧ t.session n.val =
            { s.session n.val with state := .idle, digits := [], access := false, timer := none }
          ∧ ((s.session n.val).state = .entering → tget t.mir.dirty (672 + n.val) false = true))
      ∧ ((s.session n.val).timer ≠ some 0 ∨ s.dev.state ≠ .running → t = s))

/-- The hold states end by their timer or by a key, with the hold fields cleared: a DIGIT starts the next
entry, an ACCESS sets the flag where the record allows it and is discarded where it does not, a CLEAR returns to
IDLE, and an ENTER is discarded (R67, R72). That HOLD_TIME_EXPIRY changes nothing when it is not due is log 3's
reading. -/
def Obligations.HoldEndsByTimeOrKey : Prop :=
  ∀ (n : Fin 128) (s : State),
    (s.session n.val).state ∈ [SessionState.showing, .refused, .invalid, .fallback] →
    let x := s.session n.val
    let idle : Session :=
      { x with state := .idle, access := false, destination := none, car := 0, deck := .lower,
               refusal := .unset, fallback := .unset, timer := none }
    let entry := some (s.hdr.entryTimeout * 1000)
    (∃ t, exec (.holdTimeExpiry n) s = .next t
      ∧ (s.dev.state = .running → x.timer = some 0 →
          t.session n.val = idle ∧ OnlyIn [.drq, .cmp, .mir] s t
          ∧ (∀ m, m ≠ n.val → t.session m = s.session m) ∧ t.drq.lastTicket = s.drq.lastTicket
          ∧ tget t.mir.dirty (672 + n.val) false = true)
      ∧ (x.timer ≠ some 0 ∨ s.dev.state ≠ .running → t = s))
    ∧ (∀ d, (applyKey n.val (.digit d) s).session n.val =
        { idle with state := .entering, digits := [d], timer := entry })
    ∧ ((s.recordOf x).assist = true →
        (applyKey n.val .access s).session n.val = { idle with access := true, timer := entry })
    ∧ ((s.recordOf x).assist = false → applyKey n.val .access s = s)
    ∧ (∀ key m, m ≠ n.val → (applyKey n.val key s).session m = s.session m)
    ∧ (applyKey n.val .clear s).session n.val = idle
    ∧ applyKey n.val .enter s = s

/-- ANSWER_TIMEOUT_EXPIRY in WAITING retires the ticket with reason NO_ANSWER and falls back with the hold time,
no event offered; CLEAR in WAITING offers DEST_CANCEL, retires the ticket and returns to IDLE, and the other
keys are discarded there (R80, R71, R79). That ANSWER_TIMEOUT_EXPIRY changes nothing when it is not due is log 3's
reading, and that it changes nothing outside WAITING log 1's choice. -/
def Obligations.WithdrawalsByTimeOrClear : Prop :=
  (∀ (n : Fin 128) (s : State), ∃ t, exec (.answerTimeoutExpiry n) s = .next t
    ∧ (s.dev.state = .running → (s.session n.val).state = .waiting →
        (s.session n.val).timer = some 0 →
        OnlyIn [.drq, .cmp, .mir] s t ∧ (∀ m, m ≠ n.val → t.session m = s.session m)
        ∧ t.drq.lastTicket = s.drq.lastTicket ∧ tget t.mir.dirty (672 + n.val) false = true
        ∧ t.session n.val =
          { s.session n.val with
            state := .fallback, fallback := .noAnswer, access := false,
            timer := some (s.hdr.holdTime * 1000), retiredTicket := (s.session n.val).ticket,
            retiredRoute := (s.session n.val).route, retiredKind := .withdrawn,
            withdrawal := .noAnswer, ticket := 0, route := none, redirected := false })
    ∧ ((s.session n.val).state ≠ .waiting ∨ (s.session n.val).timer ≠ some 0 → t = s))
  ∧ (∀ (n : Nat) (s : State), n < 128 → (s.session n).state = .waiting →
    OnlyIn [.drq] (offerCancel n .clear s) (applyKey n .clear s)
    ∧ (∀ m, m ≠ n → (applyKey n .clear s).session m = s.session m)
    ∧ (applyKey n .clear s).drq.lastTicket = s.drq.lastTicket
    ∧ (applyKey n .clear s).session n =
        { s.session n with
          state := .idle, access := false, timer := none, retiredTicket := (s.session n).ticket,
          retiredRoute := (s.session n).route, retiredKind := .withdrawn, withdrawal := .clear,
          ticket := 0, route := none, redirected := false }
    ∧ (∀ d, applyKey n (.digit d) s = s) ∧ applyKey n .enter s = s ∧ applyKey n .access s = s)

/-- The ticket of an offer is the first value after the last issued one, modulo 65,536, that is not 0 and that no
WAITING session holds, and there always is one. ENTER in ENTERING: INVALID for no floor or the origin floor,
FALLBACK DETACHED without dispatch, else the DEST_REQUEST offer, whose acceptance makes the session WAITING
with that ticket and whose refusal makes it FALLBACK BUSY and consumes no ticket (R69, R70, R86). The floor keyed
is the lowest of floors 0 to 253 whose label is the digits, each 0x30 plus its value, and 0x20 up to four characters
(R69); DEST_REQUEST carries the record's zone as class and source, destination and ACCESS flag as payload (R83). -/
def Obligations.EnterRequestsADestination : Prop :=
  (∀ s : State, s.drq.lastTicket < 65536 →
    s.nextTicket ≠ 0 ∧ s.nextTicket < 65536
    ∧ (∀ n, n < 128 → (s.session n).state = .waiting → (s.session n).ticket ≠ s.nextTicket)
    ∧ ∀ t, t < 65536 → t ≠ 0 →
        (∀ n, n < 128 → (s.session n).state = .waiting → (s.session n).ticket ≠ t) →
        (s.nextTicket + 65535 - s.drq.lastTicket) % 65536 ≤ (t + 65535 - s.drq.lastTicket) % 65536)
  ∧ (∀ (digits : List Nat) (s : State), digits.length ≤ 3 →
    let keyed : List Byte := digits.map (fun n => BitVec.ofNat 8 (0x30 + n))
      ++ List.replicate (4 - digits.length) 0x20
    (∀ f, f ≤ 253 → tget s.clu.floorLabels f [] = keyed →
        (∀ g, g < f → tget s.clu.floorLabels g [] ≠ keyed) → s.floorOf digits = some f)
    ∧ ((∀ f, f ≤ 253 → tget s.clu.floorLabels f [] ≠ keyed) → s.floorOf digits = none))
  ∧ (∀ (n : Nat) (s : State), n < 128 → (s.session n).state = .entering →
    let x := s.session n
    let t := applyKey n .enter s
    let hold := some (s.hdr.holdTime * 1000)
    (∀ m, m ≠ n → t.session m = s.session m)
    ∧ (s.floorOf x.digits = none → OnlyIn [.drq] s t ∧ t.drq.lastTicket = s.drq.lastTicket
        ∧ t.session n = { x with state := .invalid, digits := [], destination := none, access := false,
                                 timer := hold })
    ∧ (s.floorOf x.digits = some (s.originOf x) →
        OnlyIn [.drq] s t ∧ (t.session n).state = .invalid ∧ (t.session n).timer = hold)
    ∧ (∀ floor, s.floorOf x.digits = some floor → floor ≠ s.originOf x →
        s.dpm.presence ≠ .attached →
        OnlyIn [.drq] s t ∧ t.drq.lastTicket = s.drq.lastTicket
        ∧ t.session n = { x with state := .fallback, fallback := .detached, digits := [],
                                 destination := some floor, access := false, timer := hold })
    ∧ (∀ floor, s.floorOf x.digits = some floor → floor ≠ s.originOf x →
        s.dpm.presence = .attached →
        let e : Event :=
          { kind := .destRequest, cls := (s.recordOf x).zone, source := n, ticket := s.nextTicket,
            payload := [BitVec.ofNat 8 (s.originOf x), BitVec.ofNat 8 floor, if x.access then 1 else 0],
            time := s.dev.time }
        (∀ r, (offerVia (s.recordOf x).zone e s).2 = some r →
              OnlyIn [.drq] (offerVia (s.recordOf x).zone e s).1 t
              ∧ t.drq.lastTicket = s.nextTicket
              ∧ t.session n = { x with
                  state := .waiting, digits := [], destination := some floor, ticket := s.nextTicket,
                  route := some r, redirected := false, timer := some s.hdr.answerTimeout })
          ∧ ((offerVia (s.recordOf x).zone e s).2 = none →
              OnlyIn [.drq] (offerVia (s.recordOf x).zone e s).1 t
              ∧ t.drq.lastTicket = s.drq.lastTicket
              ∧ t.session n = { x with
                  state := .fallback, fallback := .busy, digits := [], destination := some floor,
                  access := false, timer := hold })))

/-- A new take of an answer cell: refused with RANGE, USED by its verdict, or LATE, with ANSWER_LATE for a
withdrawn ticket not yet reported; no other session is touched (R74, R75, R76, R77, R78). That an assignment
taken in STOPPING reaches the lanterns as in RUNNING is log 41's choice. -/
def Obligations.AnswersMatchTheirTicket : Prop :=
  ∀ (n : Nat) (body : List Byte) (s : State), n < 128 →
    (answerFields s.hdr.carMask body = none → takeAnswer n body s = (s, .rejected, .range))
    ∧ ∀ a, answerFields s.hdr.carMask body = some a →
      let x := s.session n
      let t := (takeAnswer n body s).1
      let hold := some (if a.hold = 0 then s.hdr.holdTime * 1000 else a.hold * 1000)
      let matched := x.bound = true ∧ x.state = .waiting ∧ x.ticket = a.ticket
      let answered : Session := { x with
        retiredTicket := x.ticket, retiredRoute := x.route, retiredKind := .answered, ticket := 0,
        route := none, redirected := false, timer := hold }
      (∀ m, m ≠ n → t.session m = s.session m)
      ∧ (matched → (takeAnswer n body s).2 = (.used, .unset)
          ∧ (a.verdict = .assigned → OnlyIn [.drq, .cmp, .mir, .clu] s t
              ∧ t.clu = (assignLanterns a.car (s.originOf x) s).clu
              ∧ t.session n = { answered with state := .showing, car := a.car, deck := a.deck })
          ∧ (a.verdict = .refused → OnlyIn [.drq, .cmp, .mir] s t
              ∧ t.session n =
                { answered with state := .refused, refusal := a.reason, access := false })
          ∧ (a.verdict = .redirectWait → x.redirected = false → OnlyIn [.drq, .cmp, .mir] s t
              ∧ t.session n =
                { x with redirected := true, timer := some s.hdr.answerTimeout })
          ∧ (a.verdict = .redirectWait → x.redirected = true → OnlyIn [.drq, .cmp, .mir] s t
              ∧ t.session n = { x with
                  state := .fallback, fallback := .noAnswer, access := false,
                  timer := some (s.hdr.holdTime * 1000), retiredTicket := x.ticket,
                  retiredRoute := x.route, retiredKind := .withdrawn, withdrawal := .noAnswer,
                  ticket := 0, route := none, redirected := false }))
      ∧ (¬ matched → a.ticket = x.retiredTicket → x.retiredKind = .withdrawn →
          takeAnswer n body s = (offerLate n a s, .late, .unset)
          ∧ t.session n = { x with retiredKind := .reported })
      ∧ (¬ matched → ¬ (a.ticket = x.retiredTicket ∧ x.retiredKind = .withdrawn) →
          takeAnswer n body s = (s, .late, .unset))

/-- A block cause sends a session to BLOCKED from any state, withdrawing a WAITING request with a cancel and retiring
its ticket: digits, ACCESS flag, destination, car, deck, refusal and fallback reason and timer are cleared, and every
other field stands; a second cause only adds. A cause cleared on a BLOCKED session leaves it BLOCKED while the other
is set, and with both clear the session is IDLE (R81). -/
def Obligations.BlockCausesBlockSessions : Prop :=
  (∀ (c : BlockCause) (n : Nat) (s : State), n < 128 → (s.session n).blockedBy c = false →
    ((s.session n).state ≠ .blocked →
      (let y := ((s.session n).withdrawnFor c.withdrawal).emptied .blocked
       (setBlockCause c n s).session n =
        match c with
        | .evac => { y with evac := true }
        | .offline => { y with offline := true })
      ∧ tget (setBlockCause c n s).mir.dirty (672 + n) false = true
      ∧ ((s.session n).state ≠ .waiting → OnlyIn [.drq, .cmp, .mir] s (setBlockCause c n s))
      ∧ ((s.session n).state = .waiting →
          OnlyIn [.drq, .cmp, .mir] (offerCancel n c.withdrawal s) (setBlockCause c n s)))
    ∧ ((s.session n).state = .blocked →
        (setBlockCause c n s).session n = (s.session n).setBlock c true)
    ∧ (∀ m, m ≠ n → (setBlockCause c n s).session m = s.session m)
    ∧ ((s.session n).state = .blocked → (s.session n).evac = true ∨ (s.session n).offline = true →
        ((clearBlockCause c n (setBlockCause c n s)).session n).state = .blocked))
  ∧ (∀ (c : BlockCause) (n : Nat) (s : State), n < 128 → (s.session n).state = .blocked →
    (s.session n).blockedBy c = true →
    let x := s.session n
    let other : Bool := match c with | .evac => x.offline | .offline => x.evac
    let cleared : Session := match c with
      | .evac => { x with evac := false }
      | .offline => { x with offline := false }
    let t := clearBlockCause c n s
    OnlyIn [.drq, .cmp, .mir] s t ∧ t.drq.lastTicket = s.drq.lastTicket
    ∧ (∀ m, m ≠ n → t.session m = s.session m)
    ∧ (other = true → t.session n = cleared)
    ∧ (other = false → t.session n = { cleared with state := .idle, timer := none }
        ∧ tget t.mir.dirty (672 + n) false = true))

/-! ## Overrides, displays and compositions -/

/-- FIRE_PIN_CHANGE moves its pin's level alone; of the samples of a pin that differ from the debounced state the
fiftieth in a row makes the change due; FIRE_LINE then flips the state and offers FIRE_LINE with the new level and
the map mask, and in LOADING from step 5 and in RUNNING forms the line sources and the effective override of the
zones of its mask again (R111, R115, R116; that it changes nothing before it is due is log 23's). At a live take in
RUNNING each line's entry is resolved again: one whose item stands, and which some window covers before and after or
none does (that another covering window is no change is log 55's choice), keeps its resolved item, and another takes
the item, or 4093 with substituted set where no window covers it, and asks the Content Store for a covered item not
held; the flags of the device record follow, and every zone is formed again (R112, R114). A forming that changes a
zone's effective override replaces it and makes its notices: the EVAC cause of the zone's sessions where EVACUATE is
raised or lowered, recomposition of its displays, and urgent marks in RUNNING; another forming changes nothing (R81,
R115, R116, R117; the order of a zone's sessions is log 43's). -/
def Obligations.FireLinesFormZones : Prop :=
  (∀ (k : Fin 4) (level : Bool) (s : State), ∃ t, exec (.firePinChange k level) s = .next t
      ∧ OnlyIn [.ovr] s t ∧ t.line k.val = { s.line k.val with pin := level }
      ∧ (∀ j, j ≠ k.val → t.line j = s.line j) ∧ t.ovr.zones = s.ovr.zones
      ∧ t.ovr.flags = s.ovr.flags)
  ∧ (∀ l : FireLine, l.changeDue = false →
      (l.pin = l.asserted → l.sample = { l with stable := 0 })
      ∧ (l.pin ≠ l.asserted → l.stable = 0 →
          (∀ n, n < 50 → (Nat.repeat FireLine.sample n l).changeDue = false)
          ∧ (Nat.repeat FireLine.sample 50 l).changeDue = true))
  ∧ (∀ (k : Fin 4) (s : State), ∃ t, exec (.fireLine k) s = .next t
      ∧ ((s.line k.val).changeDue = false → t = s)
      ∧ ((s.line k.val).changeDue = true →
          let now : FireLine := { s.line k.val with
            asserted := !(s.line k.val).asserted, stable := 0, changeDue := false }
          let offered := offerClass .fireLine k.val
            (flagByte now.asserted :: leBytes 4 now.mapMask.toNat) (s.setLine k.val now)
          t.line k.val = now
          ∧ (∀ j, j ≠ k.val → t.line j = s.line j) ∧ t.ovr.flags = s.ovr.flags
          ∧ (s.formsZones = false → t = offered)
          ∧ (s.formsZones = true → t = each
              ((List.range 32).filter fun z => now.mapMask.getLsbD z) formSources offered)
          ∧ (∀ z, (s.line k.val).mapMask.getLsbD z = false → t.zone z = s.zone z)
          ∧ (s.formsZones = true → ∀ z, z < 32 → (s.line k.val).mapMask.getLsbD z = true →
              (∀ j, j ∈ (t.zone z).sources ↔
                j < 4 ∧ (t.line j).asserted = true ∧ (t.line j).mapMask.getLsbD z = true)
              ∧ (t.zone z).hostPriority = (s.zone z).hostPriority
              ∧ (t.zone z).hostItem = (s.zone z).hostItem
              ∧ ((t.zone z).sources = [] →
                  (t.zone z).priority = (s.zone z).hostPriority
                  ∧ (t.zone z).item = (s.zone z).hostItem)
              ∧ (∀ j, j ∈ (t.zone z).sources → (∀ i, i ∈ (t.zone z).sources → j ≤ i) →
                  (t.zone z).priority = .evacuate
                  ∧ (t.zone z).item = some (t.line j).resolved))))
  ∧ (∀ (m : Vector (Word32 × Nat) 4) (old new : Vector LockWindow 4) (s : State),
      let stands (k : Nat) : Prop := (tget m k (0, 4093)).2 = (s.line k).mapItem
        ∧ (Covers old (tget m k (0, 4093)).2 ↔ Covers new (tget m k (0, 4093)).2)
      let taken (k item : Nat) (substituted : Bool) : FireLine := { s.line k with
        mapMask := (tget m k (0, 4093)).1, mapItem := (tget m k (0, 4093)).2, resolved := item,
        substituted := substituted }
      let t := changeFireMap m old new s
      (∀ k, k < 4 → let item := (tget m k (0, 4093)).2
        (stands k → t.line k = { s.line k with mapMask := (tget m k (0, 4093)).1 })
        ∧ (¬ stands k → 4088 ≤ item → t.line k = taken k item false)
        ∧ (¬ stands k → item < 4088 → ¬ Covers new item → t.line k = taken k 4093 true)
        ∧ (¬ stands k → item < 4088 → Covers new item → t.line k = taken k item false
            ∧ (s.holdsValid item = false → resolveEntry m old new k s
                = (lookupItem item false (s.setLine k (taken k item false))).1)))
      ∧ (∀ k, k < 4 → tget t.ovr.flags k false = (t.line k).substituted)
      ∧ (t.ovr.flags ≠ s.ovr.flags → tget t.mir.dirty 1400 false = true)
      ∧ (∀ z, z < 32 →
          (∀ j, j ∈ (t.zone z).sources ↔
            j < 4 ∧ (s.line j).asserted = true ∧ (tget m j (0, 4093)).1.getLsbD z = true)
          ∧ ((t.zone z).sources = [] →
              (t.zone z).priority = (s.zone z).hostPriority ∧ (t.zone z).item = (s.zone z).hostItem)
          ∧ (∀ j, j ∈ (t.zone z).sources → (∀ i, i ∈ (t.zone z).sources → j ≤ i) →
              (t.zone z).priority = .evacuate ∧ (t.zone z).item = some (t.line j).resolved)))
  ∧ (∀ (z : Nat) (s : State), z < 32 →
      let x := s.zone z
      let formed : Priority × Option Nat := match x.sources with
        | l :: _ => (.evacuate, some (s.line l).resolved)
        | [] => (x.hostPriority, x.hostItem)
      let t := formZone z s
      (formed = (x.priority, x.item) → t = s)
      ∧ (formed ≠ (x.priority, x.item) →
          OnlyIn zoneBlocks s t ∧ ZoneNotified z x.priority formed.1 s t
          ∧ t.ovr = (s.setZone z { x with priority := formed.1, item := formed.2 }).ovr)
      ∧ formSources z s = formZone z (s.setZone z { x with
          sources := (List.range 4).filter fun j => (s.line j).asserted && (s.line j).mapMask.getLsbD z }))

/-- A new take of an override cell: refused with RANGE outside its ranges, else it sets the zone's host part,
NOTICE and SERVICE as NONE while presence is DETACHED, and where zones are formed the zone's effective
override follows by R115 (R110, R115); where that changes, the EVAC cause of the zone's sessions is set or cleared,
its displays are recomposed and, in RUNNING, their panels marked urgent (R81, R116, R117; the order of the sessions
is log 43's). -/
def Obligations.OverrideTakesSetTheHostPart : Prop :=
  ∀ (n : Nat) (body : List Byte) (s : State), n < 32 →
    ((3 < numAt body 0 ∨ (numAt body 0 ≠ 0 ∧ 4095 < num16At body 2)) →
      takeOverride n body s = (s, .rejected, .range))
    ∧ ∀ p item, (numAt body 0 = 0 ∧ p = .clear ∧ item = none
          ∨ num16At body 2 ≤ 4095 ∧ item = some (num16At body 2)
            ∧ (numAt body 0 = 1 ∧ p = .notice ∨ numAt body 0 = 2 ∧ p = .service
                ∨ numAt body 0 = 3 ∧ p = .evacuate)) →
      let lowered : Prop := (s.dpm.presence = .detachedHeartbeat ∨ s.dpm.presence = .detachedBoard)
        ∧ (p = .notice ∨ p = .service)
      let t := (takeOverride n body s).1
      (takeOverride n body s).2 = (.accepted, .unset)
      ∧ (lowered → (t.zone n).hostPriority = .clear ∧ (t.zone n).hostItem = none)
      ∧ (¬ lowered → (t.zone n).hostPriority = p ∧ (t.zone n).hostItem = item)
      ∧ (∀ z, z ≠ n → t.zone z = s.zone z) ∧ t.ovr.lines = s.ovr.lines
      ∧ (t.zone n).sources = (s.zone n).sources
      ∧ (s.formsZones = false → OnlyIn [.ovr] s t ∧ (t.zone n).priority = (s.zone n).priority
          ∧ (t.zone n).item = (s.zone n).item)
      ∧ (s.formsZones = true → (s.zone n).sources = [] →
          (t.zone n).priority = (t.zone n).hostPriority ∧ (t.zone n).item = (t.zone n).hostItem)
      ∧ (∀ l rest, s.formsZones = true → (s.zone n).sources = l :: rest →
          (t.zone n).priority = .evacuate ∧ (t.zone n).item = some (s.line l).resolved)
      ∧ (s.formsZones = true →
          let same : Prop := (t.zone n).priority = (s.zone n).priority ∧ (t.zone n).item = (s.zone n).item
          (same → OnlyIn [.ovr] s t)
          ∧ (¬ same → ZoneNotified n (s.zone n).priority (t.zone n).priority s t))

/-- A new take of a display cell: refused with RANGE, CAR, DUP_PANEL or DUP_SLOT and nothing touched, or accepted,
the record replaced whole and the notices of R5 made (R2, R3, R4, R5, R6). The old slot is unbound where slot or
origin floor is no longer its own: a WAITING session offers DEST_CANCEL with reason UNBOUND and retires its ticket,
and the session is IDLE with nothing held but its retirement; a new slot starts in IDLE, or BLOCKED by an EVACUATE of
its zone or the OFFLINE of a panel that stays; a session kept has its OFFLINE cause cleared on a change of panel, and
its EVAC cause set afresh on a change of zone or assist flag (R5, R66, R79, R81, R83). The cancel's zone and floor
are the old record's (log 14), that the unbinding clears ACCESS flag, destination, car, deck, refusal and fallback
reason with the hold is log 32's, that a record of kind NONE holds the values of R1 is log 53's, and sessions follow
in STOPPING as in RUNNING (log 47). -/
def Obligations.DisplayTakesBindOrRefuse : Prop :=
  ∀ (d : Nat) (body : List Byte) (s : State), d < 512 →
    (displayFields body = none → takeDisplay d body s = (s, .rejected, .range))
    ∧ ∀ r, displayFields body = some r →
      let dupPanel := ∃ e, e < 512 ∧ e ≠ d ∧ (s.display e).status = .bound
        ∧ (s.display e).string = r.string ∧ (s.display e).address = r.address
      let dupSlot := ∃ e n f g, e < 512 ∧ e ≠ d ∧ (s.display e).status = .bound
        ∧ (s.display e).binding = .keypad n f ∧ r.binding = .keypad n g
      let carsOk := ∀ c ∈ r.binding.cars, s.hdr.carMask.getLsbD c = true
      let old := s.display d
      let t := (takeDisplay d body s).1
      (r.status = .bound → ¬ carsOk → takeDisplay d body s = (s, .rejected, .car))
      ∧ (r.status = .bound → carsOk → dupPanel → takeDisplay d body s = (s, .rejected, .dupPanel))
      ∧ (r.status = .bound → carsOk → ¬ dupPanel → dupSlot →
          takeDisplay d body s = (s, .rejected, .dupSlot))
      ∧ ((r.status = .bound → carsOk ∧ ¬ dupPanel ∧ ¬ dupSlot) →
          (takeDisplay d body s).2 = (.accepted, .unset)
          ∧ t.display d = r ∧ (∀ e, e ≠ d → t.display e = s.display e)
          ∧ (∀ e, e ≠ d → t.lantern e = s.lantern e)
          ∧ t.lantern d = (if old.lantern = r.lantern then s.lantern d
              else r.lantern.map fun b => Lantern.initial b.1 b.2)
          ∧ (r.status = .bound → (t.comp d).asked ≠ none)
          ∧ (r.status = .bound → samePanel old r = false →
              r.address ∈ (t.string r.string).schedule
              ∧ t.panel (panelIndex r.string r.address) = Panel.initial)
          ∧ (∀ k a, old.panel = some (k, a) → k < 16 → a < 32 → r.panel ≠ some (k, a) →
              a ∉ (t.string k).schedule ∧ a ∉ (t.string k).urgent
              ∧ t.panel (panelIndex k a) = s.panel (panelIndex k a))
          ∧ (let steady : Prop := ∀ k, k < 16 → (t.string k).state = (s.string k).state
             let raised : Bool := (s.zone r.zone).priority == .evacuate
             (∀ m, (∀ f, old.slot ≠ some (m, f)) → (∀ f, r.slot ≠ some (m, f)) →
                (s.session m).display ≠ d → t.session m = s.session m)
             ∧ (∀ n f, old.slot = some (n, f) → n < 128 → r.slot ≠ some (n, f) →
                let x := s.session n
                let cancelled : State :=
                  if x.state = .waiting then
                    offerTo x.route
                      { kind := .destCancel, cls := old.zone, source := n, ticket := x.ticket,
                        payload := [2, BitVec.ofNat 8 f, BitVec.ofNat 8 (x.destination.getD 0)],
                        time := s.dev.time } s
                  else s
                tget t.mir.dirty (672 + n) false = true
                ∧ (steady → t.eru = cancelled.eru ∧ t.cause = cancelled.cause)
                ∧ ((∀ g, r.slot ≠ some (n, g)) → t.session n =
                    { (x.withdrawnFor .unbound).emptied .idle with
                      bound := false, evac := false, offline := false }))
             ∧ (∀ n f, r.slot = some (n, f) → old.slot ≠ some (n, f) →
                let x := if old.slot.map Prod.fst = some n then (s.session n).withdrawnFor .unbound
                  else s.session n
                let offline : Bool := samePanel old r
                  && (s.panel (panelIndex r.string r.address)).health == .offline
                tget t.mir.dirty (672 + n) false = true
                ∧ t.session n = { Session.initial with
                    bound := true, display := d, retiredTicket := x.retiredTicket,
                    retiredRoute := x.retiredRoute, retiredKind := x.retiredKind,
                    withdrawal := x.withdrawal, evac := raised, offline := offline,
                    state := if raised || offline then .blocked else .idle })
             ∧ (∀ n f, r.slot = some (n, f) → old.slot = some (n, f) →
                let x := s.session n
                let moved : Prop := old.zone ≠ r.zone ∨ old.assist ≠ r.assist
                let y : Session :=
                  if samePanel old r then x
                  else if x.state = .blocked ∧ x.evac = false then
                    { x with offline := false, state := .idle, timer := none }
                  else { x with offline := false }
                (¬ moved → t.session n = y ∧ (steady → t.eru = s.eru))
                ∧ (moved → raised = false → (steady → t.eru = s.eru)
                    ∧ t.session n =
                      if y.state = .blocked ∧ y.offline = false then
                        { y with evac := false, state := .idle, timer := none }
                      else { y with evac := false })
                ∧ (moved → raised = true → y.evac = true → t.session n = y)
                ∧ (moved → raised = true → y.evac = false →
                    t.session n =
                      if y.state = .blocked then { y with evac := true }
                      else { (y.withdrawnFor .evac).emptied .blocked with evac := true })
                ∧ (moved → raised = true → y.evac = false → y.state = .waiting → steady →
                    t.eru = (offerCancel n .evac (s.setDisplay d r)).eru)
                ∧ ((t.session n).state ≠ x.state → tget t.mir.dirty (672 + n) false = true))))

/-- RECOMPOSE of a BOUND display that awaits it: the plan by the first case of R11 that applies, with the record's
timer and the brightness of R11 and R19; the live plan of its kind with its item and field bytes 0 to 9 (R61, R62,
R63, R84, R12); after its lookup the display waits on nothing at a hit, on that fill at a miss taken, on the end of
any fill at a miss refused, and on the id's release at a fault at once; the Content Store and the marks of the mirror
are left as that lookup leaves them, and as they were where nothing is looked up (R124); the stamp rises by 1 when a
field differs and stands otherwise; of an unbound one the request is dropped (R8, R9, R11, R13, R14, R19). Where the
plan is replaced by a sendable one and the request was DRQ's, or CLU's of a lantern, or of a fill completion that
clears content-pending, the panel goes on its string's urgent list, unless that string is not RUNNING, the panel is
not in its schedule or is OFFLINE, or the list holds it or is full (R10, R150). A request for a display that awaits
one adds nothing (R9). That RECOMPOSE changes nothing where no request waits is log 31's inference, and that its
urgent mark goes by the cause of the request that waited first is log 12's. -/
def Obligations.RecompositionBuildsThePlan : Prop :=
  (∀ (why : Ask) (d : Nat) (s : State), d < 512 →
    ((s.comp d).asked ≠ none ∨ (s.display d).status ≠ .bound → askRecompose why d s = s)
    ∧ ((s.comp d).asked = none → (s.display d).status = .bound →
        askRecompose why d s = s.setComp d { s.comp d with asked := some why }))
  ∧ ∀ (d : Fin 512) (s : State), ∃ t, exec (.recompose d) s = .next t
    ∧ ((s.comp d.val).asked = none → t = s)
    ∧ (∀ why, (s.comp d.val).asked = some why → (s.display d.val).status ≠ .bound →
        OnlyIn [.cmp] s t ∧ (t.comp d.val).asked = none ∧ (t.comp d.val).plan = (s.comp d.val).plan
        ∧ (t.comp d.val).stamp = (s.comp d.val).stamp ∧ (∀ e, e ≠ d.val → t.comp e = s.comp e))
    ∧ (∀ why, (s.comp d.val).asked = some why → (s.display d.val).status = .bound →
        let r := s.display d.val
        let z := s.zone r.zone
        let c := s.comp d.val
        let p := (t.comp d.val).plan
        let byte (n : Nat) : Byte := BitVec.ofNat 8 n
        let flag (b : Bool) : Byte := if b then 1 else 0
        let zeros (n : Nat) : List Byte := List.replicate n 0
        let floorText (f : Option Nat) : List Byte := match f with
          | some f => padTo 4 (tget s.clu.floorLabels f [])
          | none => [0x2D, 0x2D, 0x20, 0x20]
        let carText (car : Nat) : List Byte := padTo 2 (tget s.clu.carLabels car [])
        let position (car : Nat) (deck : Deck) : Option Nat × List Byte :=
          let x := s.car car
          let shown := match deck with | .lower => x.lowerShown | .upper => x.upperShown
          let rest := [flag (x.mode = .fireService), byte deck.code, flag x.full, 0]
          if x.state = .lost ∨ x.mode = .outOfService then (some 4094, zeros 10)
          else if x.state = .unheard ∨ deck = .upper ∧ shown = none then
            (none, [0x2D, 0x2D, 0x20, 0x20, 0, 0] ++ rest)
          else if x.state = .stale then (none, floorText shown ++ [0, 0] ++ rest)
          else (none, floorText shown ++ [byte x.direction.code, byte x.motion.code] ++ rest)
        let lantern : List Byte := match s.lantern d.val with
          | none => [0x20, 0x20] ++ zeros 8
          | some l => match l.state with
            | .dark => [0x20, 0x20] ++ zeros 8
            | .expected => carText l.car ++ zeros 8
            | .arriving => carText l.car ++ [byte l.direction.code, 1] ++ zeros 6
        let overview (cars : List Nat) : List Byte :=
          let floor (i : Nat) : Byte := match cars[i]? with
            | none => 0xFF
            | some car => match (s.car car).state, (s.car car).lowerShown with
              | .fresh, some f | .stale, some f => byte f
              | _, _ => 0xFF
          let arrow (i : Nat) : Nat := match cars[i]? with
            | none => 0
            | some car => if (s.car car).state = .fresh then (s.car car).direction.code else 0
          [floor 0, floor 1, floor 2, floor 3, floor 4, floor 5, floor 6, floor 7,
            byte (arrow 0 + 4 * arrow 1 + 16 * arrow 2 + 64 * arrow 3),
            byte (arrow 4 + 4 * arrow 5 + 16 * arrow 6 + 64 * arrow 7)]
        let keypad (x : Session) : Option Nat × List Byte :=
          let digit (i : Nat) : Byte := match x.digits[i]? with
            | some n => byte (0x30 + n)
            | none => 0x20
          let spaces : List Byte := [0x20, 0x20, 0x20]
          let arrow : Byte := match x.destination with
            | none => 0
            | some f => if s.originOf x < f then 1 else if f < s.originOf x then 2 else 0
          match x.state with
            | .idle => (none, spaces ++ [flag x.access] ++ zeros 6)
            | .entering => (none, [digit 0, digit 1, digit 2, flag x.access] ++ zeros 6)
            | .waiting => (some 4089, spaces ++ zeros 6 ++ [1])
            | .showing =>
              (none, spaces ++ [flag x.access] ++ carText x.car ++ [byte x.deck.code, arrow, 0, 0])
            | .refused => (some 4095, spaces ++ zeros 5 ++ [byte x.refusal.code, 0])
            | .invalid => (some 4091, spaces ++ zeros 7)
            | .fallback => (some (if x.fallback = .busy then 4092 else 4090), spaces ++ zeros 7)
            | .blocked => (some 4088, spaces ++ zeros 7)
        let live : Option Nat × List Byte := match r.binding with
          | .carPosition car deck => position car deck
          | .hallLantern _ _ => (none, lantern)
          | .lobbyOverview cars => (none, overview cars)
          | .keypad slot _ => keypad (s.session slot)
          | .free | .unused => (none, zeros 10)
        let liveItem := live.1.getD (r.template.getD 4088)
        let hit (item : Nat) : Prop := 4088 ≤ item ∨ (lookupItem item false s).2 = .hit
        let blank : Prop := p.fields = zeros 10 ∧ p.banner = none
        let looks (item : Nat) : Prop :=
          (4088 ≤ item → (t.comp d.val).wait = .nothing ∧ t.cst = s.cst ∧ t.mir = s.mir)
          ∧ (item < 4088 → t.cst = (lookupItem item false s).1.cst
              ∧ t.mir = (lookupItem item false s).1.mir
              ∧ (t.comp d.val).wait =
                match (lookupItem item false s).2 with
                | .hit => .nothing
                | .missTaken => .fill item
                | .missRefused => .anyFill
                | .faultAtOnce => .release item)
        (t.comp d.val).asked = none ∧ (∀ e, e ≠ d.val → t.comp e = s.comp e)
        ∧ (t.comp d.val).stamp = (if p = c.plan then c.stamp else c.stamp + 1)
        ∧ p.timer = r.timer
        ∧ (r.brightness ≠ 0 → p.brightness = r.brightness)
        ∧ (r.brightness = 0 → p.brightness =
            match (s.panel (r.string * 32 + r.address)).light with
              | some level => max 1 (level / 16)
              | none => 8)
        ∧ (r.enable = false → p.item = 4088 ∧ blank ∧ p.pending = false ∧ t.cst = s.cst
            ∧ t.mir = s.mir ∧ (t.comp d.val).wait = .nothing)
        ∧ (r.enable = true → z.priority = .evacuate →
            looks (z.item.getD 4093) ∧ blank ∧ p.pending = false
            ∧ (hit (z.item.getD 4093) → p.item = z.item.getD 4093)
            ∧ (¬ hit (z.item.getD 4093) → p.item = 4093))
        ∧ (r.enable = true → z.priority = .service → s.dpm.presence = .attached →
            looks (z.item.getD 4088) ∧ blank ∧ p.item = z.item.getD 4088
            ∧ (p.pending = true ↔ ¬ hit (z.item.getD 4088)))
        ∧ (r.enable = true → z.priority ≠ .evacuate →
            (z.priority = .service → s.dpm.presence ≠ .attached) →
            looks liveItem ∧ p.item = liveItem ∧ p.fields = live.2
            ∧ (p.pending = true ↔ ¬ hit liveItem)
            ∧ p.banner = (if z.priority = .notice ∧ s.dpm.presence = .attached then z.item else none))
        ∧ (p.pending = true ∨ p = c.plan → t.stc = s.stc)
        ∧ (why.urgent = false → (why.fill = false ∨ c.plan.pending = false) → t.stc = s.stc)
        ∧ (p ≠ c.plan → p.pending = false →
            (why.urgent = true ∨ why.fill = true ∧ c.plan.pending = true) →
            let x := s.string r.string
            let room : Prop := x.state = .running ∧ r.address ∈ x.schedule
              ∧ (s.panel (r.string * 32 + r.address)).health ≠ .offline
              ∧ r.address ∉ x.urgent ∧ x.urgent.length < 8
            (room → t.stc =
              (s.setString r.string { x with urgent := x.urgent ++ [r.address] }).stc)
            ∧ (¬ room → t.stc = s.stc))
        ∧ OnlyIn [.cmp, .cst, .mir, .stc] s t)

/-! ## The Content Store -/

/-- FILL: the end of the started entry's sequence. With refetch set the outcome is discarded and the entry
goes to the back; a success makes a FILL's slot VALID and decides its pin, or replaces a REFILL's bytes; a
bus error or a bad length empties a FILL's slot and quarantines its item, and leaves a REFILL's slot
(R127, R128, R131); at step 8 of LOADING the end of the last pre-fill begins the first scan (R113, R136). At a
completion and at a fault the slots with refill wanted are queued in ascending order in the room the ended fill
left, in LOADING and RUNNING, and each so queued has it cleared (R135, R137). A pre-fill that faults makes 4093 the
resolved item of its lines and sets their substituted flags, and no other end moves a line; at the end of step 8 the
flags are copied into the device record and the zones of asserted lines take the resolved items (R113, R115; log
35). A fault offers CONTENT_FAULT with the fault code, the length read (0 at a bus error) and the set, and sets the
CONTENT cause bit; a pin refused at a completion offers PIN_REFUSED with the set, the lowest covering window and the
set's pinned count; no other end offers an event (R128, R131). A completion asks recomposition of the displays that
wait on the item or on the end of any fill, and a REFILL's also of those whose plan names the item (R15, R17); a fault
asks it of those that wait on the end of any fill, makes a FILL's waiters wait on the item's release, and where the
bad-id list is full releases its oldest id, whose waiters are asked (R16, R129); nothing else that is kept for a
display changes (the reason of an earlier ask stands, log 12). That the end of the sequence is counted, with
BOARD_LOST and presence moved, before the fill takes its outcome is log 51's choice: at the fourth failure in a row
CONTENT_FAULT is offered after that change's PRESENCE, and an ask of that change stands before the fill's own. -/
def Obligations.FillsCompleteOrFault : Prop :=
  ∀ (answer : FillRead) (slot item : Nat) (e : FillEntry) (s : State),
    s.flies (.fill slot item) → startedEntry s.cst.queue = some e → e.slot < 64 →
    let x := s.slot e.slot
    let got : Option (List Byte) :=
      match answer with
        | .read _ length body =>
          if 1 ≤ length.toNat ∧ length.toNat ≤ 240 then some (padTo length.toNat body) else none
        | .busError => none
    ∃ t, exec (.fill answer) s = .next t
      ∧ t.dev.load = (if s.dev.load = .preFill ∧ t.cst.queue.any (·.preFill) = false then .firstScan
                      else s.dev.load)
      ∧ (∀ k, k < 4 → t.line k =
          if x.refetch = false ∧ got = none ∧ e.preFill = true ∧ (s.line k).mapItem = e.item then
            { s.line k with resolved := 4093, substituted := true }
          else s.line k)
      ∧ (s.dev.load = .preFill → t.dev.load = .firstScan → StepEightEnded t)
      ∧ (t.dev.load = s.dev.load → t.ovr.flags = s.ovr.flags
          ∧ t.ovr.zones = (endSequence (fillAnswered answer) s).ovr.zones)
      ∧ t.cst.windows = s.cst.windows ∧ t.cst.misses = s.cst.misses
      ∧ (∀ i, i ≠ e.slot → { t.slot i with refillWanted := (s.slot i).refillWanted } = s.slot i)
      ∧ (∀ y, y ∈ s.cst.queue → y ≠ e → y ∈ t.cst.queue)
      ∧ (x.refetch = true →
          t.slot e.slot = { x with refetch := false } ∧ t.cst.fills = s.cst.fills
          ∧ t.cst.badIds = s.cst.badIds ∧ t.cst.recency = s.cst.recency
          ∧ t.cst.queue = s.cst.queue.filter (· != e) ++ [{ e with started := false }])
      ∧ (x.refetch = false → e ∉ t.cst.queue)
      ∧ (x.refetch = false →
          let left := s.cst.queue.filter (· != e)
          let owed := (List.range 64).filter fun i =>
            (s.slot i).refillWanted && (s.slot i).item.isSome && (i != e.slot || e.refill)
          let room := if s.dev.state = .loading ∨ s.dev.state = .running then 8 - left.length else 0
          t.cst.queue = left ++ (owed.take room).map (fun i =>
            { slot := i, item := (s.slot i).item.getD 0, refill := true, preFill := false,
              started := false })
          ∧ (∀ i ∈ owed.take room, (t.slot i).refillWanted = false)
          ∧ (∀ i ∈ owed.drop room, (t.slot i).refillWanted = true))
      ∧ (∀ bytes, x.refetch = false → got = some bytes →
          t.cst.fills = s.cst.fills + 1 ∧ t.cst.badIds = s.cst.badIds
          ∧ tget t.mir.dirty 1400 false = true
          ∧ tget t.cst.recency (e.slot / 16) [] =
              e.slot % 16 :: (tget s.cst.recency (e.slot / 16) []).filter (· != e.slot % 16)
          ∧ (∀ d, d < 512 → (s.display d).status = .bound →
              ((s.comp d).wait = .fill e.item ∨ (s.comp d).wait = .anyFill) → (t.comp d).asked ≠ none)
          ∧ (e.refill = true → { t.slot e.slot with refillWanted := x.refillWanted } =
              { x with bytes := bytes, length := bytes.length })
          ∧ (e.refill = false → t.slot e.slot =
              { state := .valid, item := some e.item, refillWanted := false, refetch := false,
                length := bytes.length, bytes := bytes,
                pinned := (coveringWindow s.cst.windows e.item).isSome
                  && decide (((List.range 16).filter fun w =>
                      w != e.slot % 16 && (s.slot (slotIndex (e.slot / 16) w)).pinned).length < 15) }))
      ∧ (let e0 := endSequence (fillAnswered answer) s
         let pins := ((List.range 16).filter fun w =>
          w != e.slot % 16 && (s.slot (slotIndex (e.slot / 16) w)).pinned).length
         let length : Nat := match answer with
          | .read _ length _ => length.toNat
          | .busError => 0
         let faulted := offerClass .contentFault e.item
          ([if answer = .busError then 1 else 2] ++ leBytes 2 length ++ [BitVec.ofNat 8 (e.item % 4)]) e0
         let told : State :=
          if x.refetch then e0
          else if got = none then faulted.withCause (faulted.cause ||| 0x1000)
          else match coveringWindow s.cst.windows e.item with
            | some w =>
              if e.refill = false ∧ 15 ≤ pins then
                offerClass .pinRefused e.item
                  [BitVec.ofNat 8 (e.slot / 16), BitVec.ofNat 8 w, BitVec.ofNat 8 pins] e0
              else e0
            | none => e0
         let why (d : Nat) : Option Ask :=
          let c := e0.comp d
          if got = none then
            if c.wait = .anyFill ∨ e.refill = false ∧ 8 ≤ s.cst.badIds.length
                ∧ ∃ old ∈ s.cst.badIds.head?, c.wait = .release old.item then
              some { urgent := false, fill := false }
            else none
          else if c.wait = .fill e.item ∨ c.wait = .anyFill ∨ e.refill = true ∧ c.plan.item = e.item then
            some { urgent := false, fill := true }
          else none
         let waiting (c : Composition) : Composition :=
          if got = none ∧ e.refill = false ∧ c.wait = .fill e.item then { c with wait := .release e.item }
          else c
         ∃ u, SameEvents told u ∧ u.dev = e0.dev
          ∧ (x.refetch = true → u.cmp = e0.cmp)
          ∧ (x.refetch = false →
              ∀ d, u.comp d = (waiting (e0.comp d)).askedFor (e0.isBound d) (why d))
          ∧ t = if s.dev.load = .preFill ∧ t.cst.queue.any (·.preFill) = false then beginFirstScan u else u)
      ∧ (x.refetch = false → got = none →
          t.cst.fills = s.cst.fills ∧ t.cst.recency = s.cst.recency ∧ t.cause.getLsbD 12 = true
          ∧ (e.refill = true → t.cst.badIds = s.cst.badIds
              ∧ { t.slot e.slot with refillWanted := x.refillWanted } = x)
          ∧ (e.refill = false → t.slot e.slot = Slot.initial
              ∧ t.cst.badIds = (if s.cst.badIds.length < 8 then s.cst.badIds else s.cst.badIds.drop 1)
                  ++ [{ item := e.item, remaining := 1000 }]
              ∧ (∀ d, (s.comp d).wait = .fill e.item → (t.comp d).wait = .release e.item)))

/-- QUARANTINE_EXPIRY: an id whose second has passed leaves the bad-id list, and the displays that wait on its
release are recomposed (R129, R16); that it changes nothing before that and in IDLE rests on logs 1 and 3. A
purge, made where the serial differs, acts on each matching slot by the table of R134, the refills of pinned slots
queued in ascending order while there is room, and releases the matching quarantined ids (R133, R134). New lock
windows clear the pins that none covers any more and pin the covered VALID slots in ascending order up to 15 in a
set, and change nothing where no window differs; a refused pin offers PIN_REFUSED (R130, R131, R132). -/
def Obligations.QuarantineEndsInRelease : Prop :=
  (∀ (item : Nat) (s : State), ∃ t, exec (.quarantineExpiry item) s = .next t
    ∧ (s.dev.state ≠ .idle → { item := item, remaining := 0 } ∈ s.cst.badIds →
        OnlyIn [.cst, .cmp] s t ∧ t.cst.slots = s.cst.slots ∧ t.cst.queue = s.cst.queue
        ∧ t.cst.recency = s.cst.recency ∧ t.cst.fills = s.cst.fills ∧ t.cst.misses = s.cst.misses
        ∧ t.cst.badIds = s.cst.badIds.filter (fun b => b.item != item)
        ∧ (∀ d, (t.comp d).plan = (s.comp d).plan ∧ (t.comp d).stamp = (s.comp d).stamp)
        ∧ (∀ d, d < 512 → (s.display d).status = .bound → (s.comp d).wait = .release item →
            (t.comp d).asked ≠ none))
    ∧ (s.dev.state = .idle ∨ (∀ b ∈ s.cst.badIds, b.item = item → b.remaining ≠ 0) → t = s))
  ∧ (∀ (base mask : BitVec 16) (serial : Word32) (s : State),
    (serial = s.cst.purgeSerial → takePurgeCell base mask serial s = s)
    ∧ (serial ≠ s.cst.purgeSerial →
      let t := takePurgeCell base mask serial s
      let hits (item : Nat) : Bool := BitVec.ofNat 16 item &&& mask == base &&& mask
      let entry (i : Nat) : Option FillEntry := s.cst.queue.find? fun e => e.slot == i
      let refills (i : Nat) : Bool := (s.slot i).item.any hits && (entry i).isNone
        && !(s.slot i).refillWanted && (s.slot i).pinned
      OnlyIn [.cst, .cmp] s t ∧ t.cst.purgeSerial = serial ∧ t.cst.windows = s.cst.windows
      ∧ t.cst.fills = s.cst.fills ∧ t.cst.misses = s.cst.misses
      ∧ (∀ d, (t.comp d).plan = (s.comp d).plan ∧ (t.comp d).stamp = (s.comp d).stamp)
      ∧ t.cst.badIds = s.cst.badIds.filter (fun b => !hits b.item)
      ∧ (∀ b d, b ∈ s.cst.badIds → hits b.item = true → d < 512 →
          (s.display d).status = .bound → (s.comp d).wait = .release b.item →
          (t.comp d).asked ≠ none)
      ∧ t.cst.queue = s.cst.queue ++
          (((List.range 64).filter refills).take (8 - s.cst.queue.length)).map (fun i =>
            { slot := i, item := (s.slot i).item.getD 0, refill := true, preFill := false,
              started := false })
      ∧ ∀ i, i < 64 →
          ((s.slot i).item.any hits = false → t.slot i = s.slot i)
          ∧ ((s.slot i).item.any hits = true →
            (∀ e, entry i = some e → t.slot i =
              if e.started then { s.slot i with refetch := true } else s.slot i)
            ∧ (entry i = none → (s.slot i).refillWanted = true → t.slot i = s.slot i)
            ∧ (entry i = none → (s.slot i).refillWanted = false → (s.slot i).pinned = false →
              t.slot i = Slot.initial ∧ i % 16 ∉ tget t.cst.recency (i / 16) []
              ∧ ∀ d, d < 512 → (s.display d).status = .bound →
                  some (s.comp d).plan.item = (s.slot i).item → (t.comp d).asked ≠ none)
            ∧ (refills i = true → t.slot i =
              if t.cst.queue.any (fun e => e.slot == i) then s.slot i
              else { s.slot i with refillWanted := true }))))
  ∧ (∀ (ws : Vector LockWindow 4) (s : State),
    (ws = s.cst.windows → changeWindows ws s = s)
    ∧ (ws ≠ s.cst.windows →
      let t := changeWindows ws s
      let covered (i : Nat) : Prop := ∃ item, (s.slot i).item = some item ∧ Covers ws item
      OnlyIn (.cst :: offerBlocks) s t
      ∧ t.cst = { s.cst with windows := ws, slots := t.cst.slots }
      ∧ (∀ k, k < 4 → s.pinnedCount k ≤ 15 → t.pinnedCount k ≤ 15)
      ∧ ∀ i, i < 64 →
          t.slot i = { s.slot i with pinned := (t.slot i).pinned }
          ∧ ((s.slot i).item = none → t.slot i = s.slot i)
          ∧ ((s.slot i).item ≠ none → ¬ covered i → (t.slot i).pinned = false)
          ∧ (covered i → (s.slot i).pinned = true → (t.slot i).pinned = true)
          ∧ ((s.slot i).state ≠ .valid → (s.slot i).pinned = false → (t.slot i).pinned = false)
          ∧ (covered i → (s.slot i).state = .valid → (t.slot i).pinned = false →
              15 ≤ t.pinnedCount (i / 16)
              ∧ ∀ j, j < 64 → j / 16 = i / 16 → i < j → (s.slot j).pinned = false →
                  (t.slot j).pinned = false)))
  ∧ (∀ (i item j : Nat) (s : State), coveringWindow s.cst.windows item = some j → i < 64 →
    (s.pinnedCount (i / 16) < 15 → decidePin i item s = s.setSlot i { s.slot i with pinned := true })
    ∧ (15 ≤ s.pinnedCount (i / 16) → decidePin i item s = offerClass .pinRefused item
        [BitVec.ofNat 8 (i / 16), BitVec.ofNat 8 j, BitVec.ofNat 8 (s.pinnedCount (i / 16))] s))

/-- A lookup is answered by the first case of R124, with the effect and the miss count of that case, and a
miss taken makes the victim FILLING with its entry at the back of the queue; the victim is the lowest EMPTY
way, or else the last of the recency list that is VALID, not PINNED and owed no refill (R124, R125). -/
def Obligations.LookupsAnswerByTheFirstCase : Prop :=
  ∀ (item : Nat) (s : State), item < 4088 →
    let t := (lookupItem item false s).1
    let answer := (lookupItem item false s).2
    let held (w : Nat) : Prop :=
      (s.slot (slotIndex (item % 4) w)).state ≠ .empty
        ∧ (s.slot (slotIndex (item % 4) w)).item = some item
    let absent : Prop := ∀ i, i < 64 → (s.slot i).state = .empty ∨ (s.slot i).item ≠ some item
    (answer ≠ .hit → t.cst.misses = s.cst.misses + 1 ∧ tget t.mir.dirty 1400 false = true)
    ∧ (answer ≠ .missTaken ∨ ¬ absent → t.cst.slots = s.cst.slots ∧ t.cst.queue = s.cst.queue)
    ∧ (∀ w, w < 16 → held w →
        (∀ i, i < 64 → i ≠ slotIndex (item % 4) w →
          (s.slot i).state = .empty ∨ (s.slot i).item ≠ some item) →
        ((s.slot (slotIndex (item % 4) w)).state = .valid → answer = .hit
            ∧ t.cst.misses = s.cst.misses
            ∧ tget t.cst.recency (item % 4) [] =
                w :: (tget s.cst.recency (item % 4) []).filter (· != w))
        ∧ ((s.slot (slotIndex (item % 4) w)).state = .filling → answer = .missTaken))
    ∧ (absent → (∃ b ∈ s.cst.badIds, b.item = item) → answer = .faultAtOnce)
    ∧ (absent → (∀ b ∈ s.cst.badIds, b.item ≠ item) →
        (s.dev.state = .stopping ∨ s.dev.state = .idle ∨ 8 ≤ s.cst.queue.length
          ∨ s.victim (item % 4) = none → answer = .missRefused)
        ∧ (∀ i, s.dev.state = .loading ∨ s.dev.state = .running → s.cst.queue.length < 8 →
            s.victim (item % 4) = some i → i < 64 →
            answer = .missTaken
            ∧ t.slot i = { Slot.initial with state := .filling, item := some item }
            ∧ (∀ j, j ≠ i → t.slot j = s.slot j)
            ∧ t.cst.queue = s.cst.queue ++
                [{ slot := i, item := item, refill := false, preFill := false, started := false }]
            ∧ i % 16 ∉ tget t.cst.recency (i / 16) []))
    ∧ (∀ k w, k < 4 → w < 16 → (s.slot (slotIndex k w)).state = .empty →
        (∀ v, v < w → (s.slot (slotIndex k v)).state ≠ .empty) →
        s.victim k = some (slotIndex k w))
    ∧ (∀ k, k < 4 → (∀ w, w < 16 → (s.slot (slotIndex k w)).state ≠ .empty) →
        let may (w : Nat) : Prop := (s.slot (slotIndex k w)).state = .valid
          ∧ (s.slot (slotIndex k w)).pinned = false ∧ (s.slot (slotIndex k w)).refillWanted = false
          ∧ ∀ e ∈ s.cst.queue, e.refill = true → e.slot ≠ slotIndex k w
        (∀ before w after, tget s.cst.recency k [] = before ++ w :: after → may w →
            (∀ v ∈ after, ¬ may v) → s.victim k = some (slotIndex k w))
        ∧ ((∀ w ∈ tget s.cst.recency k [], ¬ may w) → s.victim k = none))

/-! ## The String Controllers -/

/-- SUPPLY_FAULT while the supply is on: supply and line cut, transaction, sweep, urgent list and SYNC-pending gone,
the panels of the schedule UNSEEN, the count raised, the STRING cause bit set, and the string in FAULT_LOCKED at the
fourth fault of an effective run of 1, else in FAULT with a hold of 5 s; with the supply off nothing changes (R144,
R145, R154). STRING_FAULT with the state left and the count is offered, and then STRING_STATE (R139, R144). That a
fault in WAKING or ENUMERATING with the run already fallen makes FAULT whatever the count, as R145 has it in DRAINING
and PARKING, is log 56's choice. -/
def Obligations.SupplyFaultCutsTheString : Prop :=
  ∀ (k : Fin 16) (s : State), ∃ t, exec (.supplyFault k) s = .next t
    ∧ ((s.string k.val).supply = false → t = s)
    ∧ ((s.string k.val).supply = true →
        let x := s.string k.val
        let run := x.settings.runRequest = true ∧ s.dev.state = .running
        let faults := min 4 (x.faults + 1)
        let cut : PanelString :=
          { x with supply := false, driver := false, line := .free, sweep := none, urgent := [],
                   syncPending := false, settle := none, wake := none, sweepTimer := none,
                   nextOwed := false, parkOwed := false, faults := faults }
        (run ∧ faults = 4 → t.string k.val = { cut with state := .faultLocked, hold := none })
        ∧ (¬ (run ∧ faults = 4) → t.string k.val = { cut with state := .fault, hold := some 5000 })
        ∧ (∀ j, j ≠ k.val → t.string j = s.string j)
        ∧ (∀ a ∈ x.schedule, a < 32 → t.panel (k.val * 32 + a) = Panel.initial)
        ∧ (∀ p, (∀ a ∈ x.schedule, p ≠ k.val * 32 + a) → t.panel p = s.panel p)
        ∧ t.cause.getLsbD 11 = true ∧ tget t.mir.dirty (1376 + k.val) false = true
        ∧ (let byte (n : Nat) : Byte := BitVec.ofNat 8 n
           let new : StringState := if run ∧ faults = 4 then .faultLocked else .fault
           let told := offerClass .stringState k.val [byte x.state.code, byte new.code, byte faults]
            (offerClass .stringFault k.val [byte x.state.code, byte faults] s)
           t.eru = told.eru ∧ t.cause = told.cause ||| 0x0800)
        ∧ OnlyIn [.stc, .drq, .cmp, .eru, .cause, .mir] s t)

/-- SETTLE_EXPIRY, WAKE_SENT and WAKE_TIME_EXPIRY bring a string from POWERING through WAKING, with its one WAKE
broadcast, to ENUMERATING; with an empty schedule the pass completes at once, the fault count clears and the first
sweep starts; a run that fell in WAKING parks the string. SLEEP_SENT ends PARKING: supply and line driver off, the
fault count 0, the string OFF; FAULT_HOLD_EXPIRY ends FAULT; and in either case a string whose effective run is 1
powers up again with its panels UNSEEN (R139, R140, R141, R143, R145, R154). Where the effective run of a string has
become 0, POWERING goes to PARKING with the SLEEP broadcast, WAKING and ENUMERATING park at a free line and else
remember it, RUNNING goes to DRAINING with urgent list and SYNC-pending cleared and no sweep owed, slots of OFFLINE
panels passed over and the sweep ended in the same step, and on to PARKING where no slot is left; at a busy line it
stays in DRAINING with its slots, a sweep with no slot READY or ACTIVE ended and counted; and FAULT_LOCKED goes to
OFF with fault count 0 (R139, R143, R145, R147, R148; that slots passed over, the sweep's end and PARKING come in the
step of the run's fall is log 38's inference). That WAKE_SENT parks wherever a fall of the run is remembered,
whatever the run has become, is log 20's inference; that a command changes nothing when its timer is not due, or
outside its state, rests on logs 3 and 1. Where the effective run has become 1, an OFF string powers up with its
panels UNSEEN and no other changes (R138, R139, R140). Each change of state offers one STRING_STATE with the states'
codes and the fault count (R139). That a string drains while a SYNC stays on its line is log 58's choice. -/
def Obligations.StringsComeUpAndPark : Prop :=
  (∀ (k : Fin 16) (s : State), let x := s.string k.val
    (∃ t, exec (.settleExpiry k) s = .next t
      ∧ (x.state = .powering → x.settle = some 0 →
          t.string k.val = { x with
            state := .waking, settle := none, wakeTaken := x.settings.wakeTime,
            line := .sending .wake (telegram 0 .wake 0 []) none }
          ∧ (∀ j, j ≠ k.val → t.string j = s.string j) ∧ t.stc.panels = s.stc.panels
          ∧ tget t.mir.dirty (1376 + k.val) false = true
          ∧ SameEvents (stringTold k.val .powering .waking x.faults s) t)
      ∧ (x.state ≠ .powering ∨ x.settle ≠ some 0 → t = s))
    ∧ (∃ t, exec (.wakeSent k) s = .next t
      ∧ (∀ chars, x.state = .waking → x.line = .sending .wake chars none →
          (x.parkOwed = false →
            t = s.setString k.val { x with line := .free, wake := some x.wakeTaken })
          ∧ (x.parkOwed = true → t.string k.val = { x with
              state := .parking, settle := none, wake := none, sweepTimer := none, parkOwed := false,
              line := .sending .sleep (telegram 0 .sleep 0 []) none }
            ∧ SameEvents (stringTold k.val .waking .parking x.faults s) t))
      ∧ (x.state ≠ .waking → t = s))
    ∧ (∃ t, exec (.wakeTimeExpiry k) s = .next t
      ∧ (x.state = .waking → x.wake = some 0 → x.line = .free → x.sweep = none →
          x.parkOwed = false →
          ((∃ a ∈ x.schedule, 0 < a) →
            t.string k.val = { x with state := .enumerating, wake := none, visited := 0 }
            ∧ SameEvents (stringTold k.val .waking .enumerating x.faults s) t)
          ∧ (x.schedule = [] → t.string k.val = { x with
              state := .running, wake := none, visited := 0, faults := 0, sweepNumber := 1,
              syncPending := true, nextOwed := false, sweepTimer := some x.settings.sweepInterval,
              completed := x.completed + 1 }
            ∧ SameEvents (stringTold k.val .enumerating .running 0
                (stringTold k.val .waking .enumerating x.faults s)) t)
          ∧ t.stc.panels = s.stc.panels ∧ tget t.mir.dirty (1376 + k.val) false = true)
      ∧ (x.state ≠ .waking ∨ x.wake ≠ some 0 → t = s)))
  ∧ (∀ (k : Fin 16) (s : State), let x := s.string k.val
    let run := x.settings.runRequest = true ∧ s.dev.state = .running
    let up (y : PanelString) : PanelString :=
      { y with state := .powering, rate := x.settings.rateCode, driver := true, supply := true,
               settle := some x.settings.settleTime, hold := none }
    let unseen (t : State) : Prop := ∀ a ∈ x.schedule, a < 32 →
      t.panel (k.val * 32 + a) = Panel.initial
    (∃ t, exec (.sleepSent k) s = .next t
      ∧ (∀ chars, x.state = .parking → x.line = .sending .sleep chars none →
          (¬ run → t.string k.val =
              { x with state := .off, supply := false, driver := false, line := .free, faults := 0 }
            ∧ t.stc.panels = s.stc.panels
            ∧ SameEvents (stringTold k.val .parking .off 0 s) t)
          ∧ (run → t.string k.val = up { x with line := .free, faults := 0 } ∧ unseen t
            ∧ SameEvents (stringTold k.val .off .powering 0 (stringTold k.val .parking .off 0 s)) t)
          ∧ (∀ j, j ≠ k.val → t.string j = s.string j)
          ∧ tget t.mir.dirty (1376 + k.val) false = true)
      ∧ (x.state ≠ .parking → t = s))
    ∧ (∃ t, exec (.faultHoldExpiry k) s = .next t
      ∧ (x.state = .fault → x.hold = some 0 →
          (¬ run → t.string k.val = { x with state := .off, hold := none, faults := 0 }
            ∧ t.stc.panels = s.stc.panels
            ∧ SameEvents (stringTold k.val .fault .off 0 s) t)
          ∧ (run → t.string k.val = up x ∧ unseen t
            ∧ SameEvents (stringTold k.val .fault .powering x.faults s) t)
          ∧ (∀ j, j ≠ k.val → t.string j = s.string j)
          ∧ tget t.mir.dirty (1376 + k.val) false = true)
      ∧ (x.state ≠ .fault ∨ x.hold ≠ some 0 → t = s)))
  ∧ (∀ (k : Nat) (s : State), k < 16 → s.effectiveRun k = false →
    let x := s.string k
    let t := runChanged k true s
    let parked (y : PanelString) : PanelString :=
      { y with state := .parking, settle := none, wake := none, sweepTimer := none, parkOwed := false,
               line := .sending .sleep (telegram 0 .sleep 0 []) none }
    let drained : PanelString :=
      { x with state := .draining, urgent := [], syncPending := false, nextOwed := false }
    OnlyIn (.stc :: offerBlocks) s t ∧ t.stc.panels = s.stc.panels
    ∧ (∀ j, j ≠ k → t.string j = s.string j)
    ∧ ((t.string k).state ≠ x.state → tget t.mir.dirty (1376 + k) false = true)
    ∧ (x.state = .powering → t.string k = parked x)
    ∧ (x.state = .waking ∨ x.state = .enumerating →
        (x.line = .free → t.string k = parked x)
        ∧ (x.line ≠ .free → t = s.setString k { x with parkOwed := true }))
    ∧ (x.state = .running →
        ((t.string k).state = .draining ∨ (t.string k).state = .parking)
        ∧ (x.line = .free → x.sweep = none → t.string k = parked drained)
        ∧ (∀ w, x.line = .free → x.sweep = some w →
            (∀ l ∈ w.slots, l.status ≠ .active) →
            (w.probe = true ∧ (∃ l ∈ w.slots, l.status = .ready) → t.string k = drained)
            ∧ ((∀ l ∈ w.slots, l.status ≠ .ready
                ∨ w.probe = false ∧ (s.panel (k * 32 + l.address)).health = .offline) →
              t.string k = parked { drained with sweep := none, completed := x.completed + 1 }))
        ∧ (x.line = .free → LineFreed k drained t)
        ∧ (x.line ≠ .free →
            (∀ w, x.sweep = some w → ∃ l ∈ w.slots, l.status = .active ∨ l.status = .ready) →
            t.string k = drained)
        ∧ (∀ w, x.line ≠ .free → x.sweep = some w →
            (∀ l ∈ w.slots, l.status ≠ .active ∧ l.status ≠ .ready) → t.string k = drained.swept))
    ∧ (x.state = .faultLocked → t.string k = { x with state := .off, faults := 0 })
    ∧ (x.state = .off ∨ x.state = .draining ∨ x.state = .parking ∨ x.state = .fault → t = s)
    ∧ (x.state ≠ .running →
        SameEvents (stringTold k x.state (t.string k).state (t.string k).faults s) t)
    ∧ (x.state = .running → SameEvents (stringTold k .draining (t.string k).state x.faults
        (stringTold k .running .draining x.faults s)) t))
  ∧ (∀ (k : Nat) (s : State), k < 16 → s.effectiveRun k = true →
    let x := s.string k
    let t := runChanged k false s
    OnlyIn stringBlocks s t
    ∧ (x.state ≠ .off → t = s)
    ∧ (x.state = .off →
        t.string k = { x with
          state := .powering, rate := x.settings.rateCode, driver := true, supply := true,
          settle := some x.settings.settleTime, hold := none }
        ∧ (∀ j, j ≠ k → t.string j = s.string j)
        ∧ (∀ a ∈ x.schedule, a < 32 → t.panel (k * 32 + a) = Panel.initial)
        ∧ (∀ p, (∀ a ∈ x.schedule, p ≠ k * 32 + a) → t.panel p = s.panel p)
        ∧ tget t.mir.dirty (1376 + k) false = true
        ∧ SameEvents (stringTold k .off .powering x.faults s) t))
  ∧ (∀ (k : Nat) (s : State),
    (s.effectiveRun k = true ↔ (s.string k).settings.runRequest = true ∧ s.dev.state = .running)
    ∧ runChanged k (s.effectiveRun k) s = s)

/-- SYNC sends the sixteen phases to address 0 and clears SYNC-pending, where the string is RUNNING with its line
free and the flag set; TELEGRAM_SENT opens the reply window of a visit with the reply timeout as it stands, and frees
the line after a SYNC, so that the string takes what it does of itself at a free line, its STRING_STATE with it
(R139), in DRAINING too, where a string with no sweep parks then (log 58's choice); every telegram has the marker
in its header alone and the CRC-8 of its other characters last (R147, R148, R151, R155, R156, R157; log 38; the
number of a sweep that starts there wraps, log 57). That SYNC and TELEGRAM_SENT leave the state as it is outside
their conditions is log 1's choice. -/
def Obligations.SyncsAndTelegramEnds : Prop :=
  (∀ (k : Fin 16) (s : State), let x := s.string k.val
    (∃ t, exec (.sync k) s = .next t
      ∧ (x.state = .running → x.syncPending = true → x.line = .free →
          ∃ low high : Byte,
            t = s.setString k.val { x with
              syncPending := false, line := .sending .sync (telegram 0 .sync 0 [low, high]) none }
            ∧ ∀ j, j < 8 → low.getLsbD j = (s.channel j).phase
                ∧ high.getLsbD j = (s.channel (8 + j)).phase)
      ∧ (x.state ≠ .running ∨ x.syncPending = false ∨ x.line ≠ .free → t = s))
    ∧ (∃ t, exec (.telegramSent k) s = .next t
      ∧ (∀ command chars v, x.line = .sending command chars (some v) →
          t = s.setString k.val
            { x with line := .window v [] x.settings.replyTimeout x.settings.replyTimeout })
      ∧ (∀ chars, x.line = .sending .sync chars none →
          LineFreed k.val { x with line := .free } t
          ∧ SameEvents
              (stringTold k.val x.state (t.string k.val).state (t.string k.val).faults s) t
          ∧ (x.state = .draining → x.sweep = none →
              t.string k.val = PanelString.parked { x with line := .free })
          ∧ (x.state = .running →
              (t.string k.val).line = .free ∧ (t.string k.val).state = .running
              ∧ (x.sweep = none → t = s.setString k.val { x with line := .free })))
      ∧ (x.line = .free → t = s)))
  ∧ (∀ (address ack : Nat) (command : Command) (payload : List Byte), payload.length ≤ 305 →
    ∃ header body check, telegram address command ack payload =
        (header.setWidth 9 ||| 0x100) :: (body ++ [check]).map (·.setWidth 9)
      ∧ header = BitVec.ofNat 8 address ∧ check = crc8 (header :: body)
      ∧ body = BitVec.ofNat 8 command.code :: BitVec.ofNat 8 ack
          :: BitVec.ofNat 8 payload.length :: BitVec.ofNat 8 (payload.length / 256) :: payload
      ∧ (∀ c ∈ ((body ++ [check]).map fun b : Byte => b.setWidth 9), c.getLsbD 8 = false))

/-- The command of a visit by the table of R159, and what a string's free line visits next by R141 and R148; SHOW,
POLL and ENUMERATE begin the visit whose command they are, with the telegram of R155 and the stamp and the key ack
as they stand (R17); that they change nothing otherwise is log 1's choice. A SHOW's payload: the plan's item id,
timer index and brightness, the field block with the banner slot, the item's length and bytes, those of its VALID
slot or of ROM (open values, log 16), and for a LOBBY_OVERVIEW display the label addition of its places, by the
codes of the plan's own fields (log 18) (R156, R63). -/
def Obligations.VisitsBeginByTheTable : Prop :=
  (∀ (k a d : Nat) (s : State),
      let p := s.panel (k * 32 + a)
      let c := s.comp d
      s.visitCommand k a d =
        if (s.string k).state = .enumerating ∨ p.health = .unseen ∨ p.health = .offline then .enumerate
        else if p.shown = some c.stamp ∨ c.plan.pending = true
          ∨ (c.plan.item < 4088 ∧ s.holdsValid c.plan.item = false) then .poll
        else .show)
  ∧ (∀ (k : Nat) (s : State), let x := s.string k
      (x.line ≠ .free → s.nextVisit k = none)
      ∧ (x.line = .free → x.state = .running → x.syncPending = true → s.nextVisit k = none)
      ∧ (∀ a rest, x.line = .free → x.state = .running → x.syncPending = false →
          x.urgent = a :: rest → s.nextVisit k = some (a, .urgent))
      ∧ (∀ w a, x.line = .free → x.sweep = some w → w.nextReady = some a →
          (x.state = .running ∧ x.syncPending = false ∧ x.urgent = [] ∨ x.state = .draining) →
          s.nextVisit k = some (a, .slot))
      ∧ (∀ a, x.line = .free → x.state = .enumerating → x.parkOwed = false →
          x.nextOfPass = some a → s.nextVisit k = some (a, .pass)))
  ∧ (∀ (k : Fin 16) (i : Instr) (command : Command) (s : State),
      (i, command) ∈ [(Instr.showPlan k, Command.show), (.poll k, .poll), (.enumerate k, .enumerate)] →
      (∀ a o d, s.nextVisit k.val = some (a, o) → s.holder k.val a = some d →
        s.visitCommand k.val a d = command →
        ∃ t payload, exec i s = .next t
          ∧ (command ≠ .show → payload = [])
          ∧ (command = .show → payload = s.showPayload d
              ∧ let p := (s.comp d).plan
                let byte (n : Nat) : Byte := BitVec.ofNat 8 n
                let word (n : Nat) : List Byte := [byte n, byte (n / 256)]
                let carText (car : Nat) : List Byte := padTo 2 (tget s.clu.carLabels car [])
                let floorText (code : Byte) : List Byte :=
                  if code = 0xFF then [0x2D, 0x2D, 0x20, 0x20]
                  else padTo 4 (tget s.clu.floorLabels code.toNat [])
                let place (cars : List Nat) (n : Nat) : List Byte := match cars[n]? with
                  | some car => carText car
                  | none => [0x20, 0x20]
                ∃ item labels : List Byte,
                  payload = word p.item ++ [byte p.timer, byte p.brightness] ++ padTo 10 p.fields
                    ++ word (p.banner.getD 0xFFFF) ++ [byte item.length] ++ item ++ labels
                  ∧ (4088 ≤ p.item → item.length = 240
                      ∧ ∀ n, n < 240 → byteAt item n = Config.builtinByte (p.item - 4088) n)
                  ∧ (∀ n, n < 64 → p.item < 4088 → (s.slot n).state = .valid →
                      (s.slot n).item = some p.item →
                      (∀ m, m < n → (s.slot m).state ≠ .valid ∨ (s.slot m).item ≠ some p.item) →
                      item = (s.slot n).bytes)
                  ∧ (∀ cars, (s.display d).binding = .lobbyOverview cars → labels =
                      place cars 0 ++ place cars 1 ++ place cars 2 ++ place cars 3 ++ place cars 4
                        ++ place cars 5 ++ place cars 6 ++ place cars 7
                        ++ floorText (byteAt p.fields 0) ++ floorText (byteAt p.fields 1)
                        ++ floorText (byteAt p.fields 2) ++ floorText (byteAt p.fields 3)
                        ++ floorText (byteAt p.fields 4) ++ floorText (byteAt p.fields 5)
                        ++ floorText (byteAt p.fields 6) ++ floorText (byteAt p.fields 7))
                  ∧ ((∀ cars, (s.display d).binding ≠ .lobbyOverview cars) → labels = []))
          ∧ t.stc = (s.setString k.val { (s.string k.val).visiting a o with
              line := .sending command
                (telegram a command (s.panel (k.val * 32 + a)).keyAck payload)
                (some { address := a, command := command, origin := o, stamp := (s.comp d).stamp,
                        stayed := true }) }).stc
          ∧ OnlyIn [.stc, .cmp] s t
          ∧ ((s.panel (k.val * 32 + a)).shown ≠ some (s.comp d).stamp →
              (s.comp d).plan.pending = false → (s.comp d).plan.item < 4088 →
              s.holdsValid (s.comp d).plan.item = false → command = .poll → d < 512 →
              (t.comp d).asked ≠ none))
      ∧ ((∀ a o d, s.nextVisit k.val = some (a, o) → s.holder k.val a = some d →
            s.visitCommand k.val a d ≠ command) → exec i s = .next s))

/-- PANEL_REPLY of ten characters that pass the checks of R158 is GOOD: the panel is PRESENT with no misses, its
light level and new keys are taken, and its shown stamp follows the sent stamp of a SHOW and is invalid after UNSEEN
or OFFLINE (R160, R161, R162, R163); an ENUMERATE whose type does not match refuses the record and takes nothing
further but PANEL_TYPE (R7, R142). New keys of a KEYPAD record are handed to its slot's session as one delivery,
after a return from OFFLINE has cleared the session's OFFLINE cause in RUNNING, and a sequence of 0 or one already
acknowledged, or a record of another kind, hands on none; a delivery is applied in RUNNING to a bound slot, key after
key in order, with one mark and one request if it changed the session, and is else discarded (R67, R81, R162, R166).
The visit's slot becomes GOOD, and at the free line the sweep goes on, or ends and is counted, an owed one starts,
and a pass with no address left ends in RUNNING (R141, R147, R148; log 38; the sweep number wraps, log 57; GOOD for a
reply refused by type too, log 19); of a panel that left the schedule since the visit began the outcome is discarded
whole: no health change, no keys, no type report, and its slot is removed without a status (R152); in RUNNING a leave
of UNSEEN or OFFLINE sets SYNC-pending (R151), and a leave of OFFLINE offers PANEL_BACK (R166). A light level whose
step differs by 2 or more from an AUTO display's plan asks for recomposition, and another for none (R19, R163). A
string that ends its pass or parks in the step offers its STRING_STATE last (R139). -/
def Obligations.GoodRepliesMoveThePanel : Prop :=
  (∀ (k : Fin 16) (v : Visit) (timeout remaining d : Nat) (bytes : List Byte) (r : Reply) (s : State),
    (s.string k.val).line = .window v [] timeout remaining → v.stayed = true → v.address < 32 →
    s.holder k.val v.address = some d → bytes.length = 10 →
    replyFields v.address v.command bytes = some r →
    let p := s.panel (k.val * 32 + v.address)
    let fresh : Prop := r.sequence ≠ 0 ∧ r.sequence ≠ p.keyAck
    let x := s.string k.val
    let byte (n : Nat) : Byte := BitVec.ofNat 8 n
    let slotDone (w : Sweep) : Sweep := if v.origin = .slot then w.ended v.address .good else w
    let level := max 1 (r.light / 16)
    let brightness := (s.comp d).plan.brightness
    let lit : Prop := (s.display d).brightness = 0 ∧ (brightness + 2 ≤ level ∨ level + 2 ≤ brightness)
    let moved (t u : State) : State :=
      stringTold k.val x.state (t.string k.val).state (t.string k.val).faults u
    ∃ t, exec (.panelReply k (bytes.map fun b => { data := b, marker := false, stop := true })) s
        = .next t
      ∧ (∀ w got a b, (t.string k.val).line ≠ .window w got a b)
      ∧ (∀ q, q ≠ k.val * 32 + v.address → t.panel q = s.panel q)
      ∧ ((t.string k.val).state ≠ x.state ∨ (t.string k.val).completed ≠ x.completed →
          tget t.mir.dirty (1376 + k.val) false = true)
      ∧ (v.command ≠ .enumerate ∨ r.type = (s.display d).binding.panelType →
          t.ddir = s.ddir
          ∧ t.panel (k.val * 32 + v.address) =
            { health := .present, misses := 0,
              shown := if p.health = .unseen ∨ p.health = .offline then none
                       else if v.command = .show then some v.stamp else p.shown,
              keyAck := if r.sequence = 0 then p.keyAck else r.sequence,
              light := some r.light }
          ∧ ((p.health, p.misses, p.light) ≠ (Health.present, 0, some r.light) → v.address ≠ 0 →
              tget t.mir.dirty (864 + (k.val * 32 + v.address)) false = true)
          ∧ LineFreed k.val
            { x with line := .free, sweep := x.sweep.map slotDone,
                     syncPending := x.syncPending
                      || x.state == .running && (p.health == .unseen || p.health == .offline) } t
          ∧ (lit → (t.comp d).asked ≠ none)
          ∧ (¬ lit → p.health ≠ .offline → ¬ fresh → t.cmp = s.cmp)
          ∧ (∃ u : State, u.dev = s.dev ∧ u.hdr = s.hdr ∧ u.dpm = s.dpm ∧ u.ddir = s.ddir
              ∧ u.clu = s.clu ∧ u.ovr = s.ovr ∧ u.drq.lastTicket = s.drq.lastTicket
              ∧ (p.health ≠ .offline ∨ s.dev.state ≠ .running → u.drq = s.drq)
              ∧ (p.health ≠ .offline → SameEvents s u)
              ∧ (p.health = .offline → SameEvents (offerClass .panelBack (k.val * 32 + v.address)
                  [byte k.val, byte v.address, byte r.light] s) u)
              ∧ (p.health = .offline → s.dev.state = .running → ∀ n, u.session n =
                  let x := s.session n
                  if x.bound = true ∧ x.display = d then
                    if x.state = .blocked ∧ x.evac = false then
                      { x with offline := false, state := .idle, timer := none }
                    else { x with offline := false }
                  else x)
              ∧ (fresh → ∀ slot floor, (s.display d).binding = .keypad slot floor →
                  t.drq = (deliverKeys slot r.keys u).drq
                  ∧ SameEvents (moved t (deliverKeys slot r.keys u)) t)
              ∧ (¬ fresh ∨ (∀ slot floor, (s.display d).binding ≠ .keypad slot floor) →
                  t.drq = u.drq ∧ SameEvents (moved t u) t)))
      ∧ (v.command = .enumerate → r.type ≠ (s.display d).binding.panelType →
          t.display d = { s.display d with status := .rejectedType }
          ∧ (∀ e, e ≠ d → t.display e = s.display e)
          ∧ (t.receipt d).verdict = .rejected ∧ (t.receipt d).reason = .type
          ∧ (t.receipt d).count = (s.receipt d).count
          ∧ t.panel (k.val * 32 + v.address) = p
          ∧ v.address ∉ (t.string k.val).schedule
          ∧ (let left (w : Sweep) : Sweep :=
              { w with slots := w.slots.filter fun l => !(l.address == v.address && l.status == .ready) }
             LineFreed k.val
              { x with line := .free, schedule := x.schedule.filter (· != v.address),
                       urgent := x.urgent.filter (· != v.address),
                       sweep := x.sweep.map fun w => slotDone (left w) } t)
          ∧ ((∀ n f, (s.display d).slot = some (n, f) → (s.session n).state ≠ .waiting) →
              SameEvents (moved t (offerClass .panelType (k.val * 32 + v.address)
                [byte r.type, byte (s.display d).binding.kind, byte d, byte (d / 256)] s)) t)))
  ∧ (∀ (k : Fin 16) (v : Visit) (timeout remaining : Nat) (bytes : List Byte) (r : Reply) (s : State),
    (s.string k.val).line = .window v [] timeout remaining → v.stayed = false →
    bytes.length = 10 → replyFields v.address v.command bytes = some r →
    let x := s.string k.val
    let removed (w : Sweep) : Sweep :=
      if v.origin = .slot then
        { w with slots := w.slots.filter fun l => !(l.address == v.address && l.status == .active) }
      else w
    ∃ t, exec (.panelReply k (bytes.map fun b => { data := b, marker := false, stop := true })) s
        = .next t
      ∧ OnlyIn [.stc, .eru, .cause, .mir] s t
      ∧ t.stc.panels = s.stc.panels ∧ t.mir.receipts = s.mir.receipts
      ∧ (∀ j, j ≠ k.val → t.string j = s.string j)
      ∧ LineFreed k.val { x with line := .free, sweep := x.sweep.map removed } t
      ∧ SameEvents (stringTold k.val x.state (t.string k.val).state (t.string k.val).faults s) t
      ∧ ((t.string k.val).state ≠ x.state ∨ (t.string k.val).completed ≠ x.completed →
          tget t.mir.dirty (1376 + k.val) false = true))
  ∧ (∀ (n : Nat) (keys : List Key) (s : State), n < 128 →
    let t := keys.foldl (fun u key => applyKey n key u) s
    (s.dev.state = .running → (s.session n).bound = true →
      (deliverKeys n keys s).drq = t.drq
      ∧ OnlyIn [.cmp, .mir] t (deliverKeys n keys s)
      ∧ (t.session n = s.session n → deliverKeys n keys s = t)
      ∧ (t.session n ≠ s.session n →
          tget (deliverKeys n keys s).mir.dirty (672 + n) false = true
          ∧ ((t.session n).display < 512 → (t.display (t.session n).display).status = .bound →
              ((deliverKeys n keys s).comp (t.session n).display).asked ≠ none)))
    ∧ (s.dev.state ≠ .running ∨ (s.session n).bound = false → deliverKeys n keys s = s))

/-- REPLY_TIMEOUT with no character is NO_REPLY and with some is BAD_REPLY, and a character with the marker or
without its stop bit is BAD_REPLY at once, and so is a tenth character that completes a reply which fails a check of
R158 (its CRC-8, its address echo, its reply kind, its type code, its key count or a key code); each is a failure of
the panel by the table of R164, and entry to OFFLINE takes its address off the urgent list, sets the OFFLINE cause of
its session in RUNNING and offers PANEL_OFFLINE; of a panel that left the schedule the outcome is discarded, and its
slot removed (R81, R152, R157, R158, R164, R165). The visit's slot takes NO_REPLY or BAD_REPLY, HALT makes the READY
slots SKIPPED, and at the free line the sweep goes on, or ends and is counted, an owed one starts, and a pass with no
address left ends in RUNNING (R141, R147, R148, R149; in one step by log 38; the sweep number wraps, log 57; the
reports in RUNNING alone by log 31). A string that ends its pass or parks in the step offers its STRING_STATE last
(R139). Before its time the command changes nothing (log 3). -/
def Obligations.FailuresMoveThePanel : Prop :=
  ∀ (k : Fin 16) (v : Visit) (got : List Byte) (timeout remaining : Nat) (s : State),
    (s.string k.val).line = .window v got timeout remaining → v.address < 32 →
    let p := s.panel (k.val * 32 + v.address)
    let threshold := (s.string k.val).settings.threshold
    let count := min 7 (p.misses + 1)
    let failed : Panel :=
      match p.health with
        | .unseen => { p with misses := threshold, health := .offline }
        | .offline => { p with misses := count }
        | .present | .degraded =>
          { p with misses := count, health := if count < threshold then .degraded else .offline }
    let x := s.string k.val
    let byte (n : Nat) : Byte := BitVec.ofNat 8 n
    let lost : Bool := v.stayed && failed.health == .offline && p.health != .offline
    let told : State := match s.holder k.val v.address with
      | some d =>
        if s.dev.state = .running then
          ((List.range 128).filter fun n => (s.session n).bound && (s.session n).display == d).foldl
            (fun u n => setBlockCause .offline n u) s
        else s
      | none => s
    let slotDone (status : SlotStatus) (w : Sweep) : Sweep :=
      if v.origin ≠ .slot then w
      else if v.stayed then w.ended v.address status
      else { w with slots := w.slots.filter fun l => !(l.address == v.address && l.status == .active) }
    let moved (t u : State) : State :=
      stringTold k.val x.state (t.string k.val).state (t.string k.val).faults u
    let fails (status : SlotStatus) (t : State) : Prop :=
      (∀ w g a b, (t.string k.val).line ≠ .window w g a b)
      ∧ (∀ q, q ≠ k.val * 32 + v.address → t.panel q = s.panel q)
      ∧ LineFreed k.val
        { x with line := .free, sweep := x.sweep.map (slotDone status),
                 urgent := if lost then x.urgent.filter (· != v.address) else x.urgent } t
      ∧ ((t.string k.val).state ≠ x.state ∨ (t.string k.val).completed ≠ x.completed →
          tget t.mir.dirty (1376 + k.val) false = true)
      ∧ (v.stayed = false → t.panel (k.val * 32 + v.address) = p)
      ∧ (v.stayed = true → t.panel (k.val * 32 + v.address) = failed)
      ∧ (lost = false → t.drq = s.drq ∧ SameEvents (moved t s) t)
      ∧ (lost = true → t.drq = told.drq ∧ v.address ∉ (t.string k.val).urgent
          ∧ SameEvents (moved t (offerClass .panelOffline (k.val * 32 + v.address)
              [byte k.val, byte v.address, byte p.health.code, byte failed.misses] told)) t)
    (∃ t, exec (.replyTimeout k) s = .next t
      ∧ (remaining = 0 → fails (if got = [] then .noReply else .badReply) t)
      ∧ (remaining ≠ 0 → t = s))
    ∧ (∀ c : LineChar, (c.marker = true ∨ c.stop = false) →
        ∃ t, exec (.panelReply k [c]) s = .next t ∧ fails .badReply t)
    ∧ (∀ c : LineChar, c.marker = false → c.stop = true → got.length < 9 →
        exec (.panelReply k [c]) s = .next (s.setString k.val { s.string k.val with
          line := .window v (got ++ [c.data]) timeout
            (if got = [] then timeout else remaining) }))
    ∧ (∀ c : LineChar, c.marker = false → c.stop = true → got.length = 9 →
        let b := got ++ [c.data]
        let n (i : Nat) : Nat := (byteAt b i).toNat
        let sequence := n 3 % 16
        let count := n 3 / 16 % 8
        (byteAt b 9 ≠ crc8 got ∨ n 0 ≠ v.address
            ∨ n 1 ≠ (if v.command = .enumerate then 2 else 1) ∨ n 2 = 0 ∨ 5 < n 2 ∨ 4 < count
            ∨ (sequence = 0 ∧ count ≠ 0) ∨ (sequence ≠ 0 ∧ count = 0)
            ∨ (∃ i, i < count ∧ 12 < n (4 + i))) →
        ∃ t, exec (.panelReply k [c]) s = .next t ∧ fails .badReply t)

/-- SWEEP_INTERVAL_EXPIRY in RUNNING starts the next sweep, of the schedule's addresses without those OFFLINE unless
its number is a multiple of the probe interval, or counts an overrun where a sweep is in progress; in DRAINING it
starts nothing. A slot's outcome sets its status; after a failure HALT makes every READY slot SKIPPED, and SKIP
leaves them (R146, R147, R148, R149). A string whose line is free passes over READY slots of OFFLINE panels, ends and
counts a sweep with no slot left, starts the one an overrun owes, parks when drained, and ends a complete enumeration
pass in RUNNING with its first sweep, a change of state with its STRING_STATE (R139, R141, R143, R147, R148; in one
step by log 38; one whose line carries a SYNC waits for its end, log 58's choice). That an expiry outside RUNNING
only stops the timer is log 38's inference, that one not due changes nothing log 3's, and that the sweep number wraps
modulo 2^32 log 57's choice. -/
def Obligations.SweepsStartOrOverrun : Prop :=
  (∀ (k : Fin 16) (s : State), ∃ t, exec (.sweepIntervalExpiry k) s = .next t
    ∧ (let x := s.string k.val
       let number := x.sweepNumber + 1
       let probe : Bool := number.toNat % x.settings.probeInterval == 0
       let slots := (x.schedule.filter fun a =>
          probe || (s.panel (k.val * 32 + a)).health != .offline).map fun a =>
            ({ address := a, status := .ready } : SweepSlot)
       (x.sweepTimer ≠ some 0 → t = s)
       ∧ (x.sweepTimer = some 0 → x.state ≠ .running →
          t = s.setString k.val { x with sweepTimer := none })
       ∧ (∀ w, x.sweepTimer = some 0 → x.state = .running → x.sweep = some w →
          OnlyIn [.mir, .stc] s t ∧ t.stc = (s.setString k.val { x with
            overruns := x.overruns + 1, nextOwed := true, sweepTimer := none }).stc
          ∧ tget t.mir.dirty (1376 + k.val) false = true)
       ∧ (x.sweepTimer = some 0 → x.state = .running → x.sweep = none →
          OnlyIn [.mir, .stc] s t
          ∧ (slots ≠ [] → t = s.setString k.val { x with
              sweepNumber := number, sweepTimer := some x.settings.sweepInterval, nextOwed := false,
              sweep := some { slots := slots, probe := probe, halt := x.settings.halt } })
          ∧ (slots = [] → t.stc = (s.setString k.val { x with
              sweepNumber := number, sweepTimer := some x.settings.sweepInterval, nextOwed := false,
              sweep := none, completed := x.completed + 1 }).stc
              ∧ tget t.mir.dirty (1376 + k.val) false = true))))
  ∧ (∀ (a : Nat) (o : VisitOutcome) (w : Sweep),
    (w.slotDone a o).probe = w.probe ∧ (w.slotDone a o).halt = w.halt
    ∧ (w.slotDone a o).slots = w.slots.map fun l =>
        if l.address = a ∧ l.status = .active then { l with status := o.status }
        else if w.halt = true ∧ (o = .noReply ∨ o = .badReply) ∧ l.status = .ready then
          { l with status := .skipped }
        else l)
  ∧ (∀ (k : Nat) (s : State), k < 16 → (s.string k).line = .free →
    let t := settleString k s
    LineFreed k (s.string k) t ∧ OnlyIn (.stc :: offerBlocks) s t ∧ t.stc.panels = s.stc.panels
    ∧ (∀ j, j ≠ k → t.string j = s.string j)
    ∧ ((t.string k).state ≠ (s.string k).state ∨ (t.string k).completed ≠ (s.string k).completed →
        tget t.mir.dirty (1376 + k) false = true)
    ∧ SameEvents (stringTold k (s.string k).state (t.string k).state (t.string k).faults s) t)

/-! ## The Cadence Timers -/

/-- CADENCE_TICK: a channel that runs, or takes its START, counts once: an underflow loads the reload value
with phase 0, and a decrement to the compare value begins phase 1; a STOP is taken after its tick; a phase
change sets SYNC-pending on every RUNNING string. CADENCE_UNDERFLOW is the tick that meets a count of 0
(R169, R170, R172, R174; with no tick owed nothing changes, log 22). At a live take in RUNNING each pair takes its
settings: a changed cascade bit restarts both channels of the pair, and with the bit kept a changed preset serial
loads the count with phase 0, a changed run setting is held as pending or withdraws what is pending, and the rest
acts at the coming ticks; an upper channel of a cascaded pair takes its settings alone, with the pair's phase; a
phase that changes sets SYNC-pending (R170, R171, R172, R173, R174; that owed ticks are dropped at a change of
source or of the cascade bit, and where a pair's count and phase stand, is log 22's). -/
def Obligations.CadenceTicksCountOnce : Prop :=
  (∀ (k : Fin 16) (s : State), let x := s.channel k
    let counts := x.running = true ∨ x.pending = .start
    let paired := k.val % 2 = 0 ∧ x.settings.cascade = true
    let phase : Bool :=
      if x.count = 0 then false else if x.count - 1 = s.compareOf k.val then true else x.phase
    (s.tickDue k.val = false → exec (.cadenceTick k) s = .next s
        ∧ exec (.cadenceUnderflow k) s = .next s)
    ∧ (s.tickDue k.val = true →
        ((¬ counts ∨ x.count ≠ 0) → exec (.cadenceUnderflow k) s = .next s)
        ∧ (counts → x.count = 0 → exec (.cadenceUnderflow k) s = exec (.cadenceTick k) s)
        ∧ ∃ t, exec (.cadenceTick k) s = .next t ∧ OnlyIn [.cdt, .stc] s t
          ∧ t.stc.panels = s.stc.panels
          ∧ (∀ j, j ≠ k.val → (paired → j ≠ k.val + 1) → t.channel j = s.channel j)
          ∧ (¬ counts → t.channel k.val = { x with owed := x.owed - 1, pending := .unset }
              ∧ OnlyIn [.cdt] s t ∧ (∀ j, j ≠ k.val → t.channel j = s.channel j))
          ∧ (counts →
              t.channel k.val = { x with
                owed := x.owed - 1, pending := .unset, running := decide (x.pending ≠ .stop),
                count := if x.count = 0 then s.reloadOf k.val else x.count - 1, phase := phase }
              ∧ (paired → t.channel (k.val + 1) = { s.channel (k.val + 1) with phase := phase })
              ∧ (phase = x.phase → t.stc = s.stc)
              ∧ (phase ≠ x.phase → ∀ j, j < 16 → t.string j =
                  if (s.string j).state = .running then { s.string j with syncPending := true }
                  else s.string j))))
  ∧ (∀ (settings : Vector ChannelSettings 16) (s : State),
    let t := changeTimers settings s
    let wanted (k : Nat) : ChannelSettings := tget settings k ChannelSettings.initial
    let reload (k : Nat) : Nat := (wanted k).reload
      + if k % 2 = 0 ∧ (wanted k).cascade = true then 256 * (wanted (k + 1)).reload else 0
    let restarted (k : Nat) : Channel :=
      { settings := wanted k, running := false,
        pending := if (wanted k).run then .start else .unset, count := reload k, phase := false,
        owed := 0 }
    let taken (k : Nat) : Channel :=
      let x := s.channel k
      { settings := wanted k, running := x.running,
        pending := if (wanted k).run = x.settings.run then x.pending
                   else if (wanted k).run = x.running then .unset
                   else if (wanted k).run then .start else .stop,
        count := if (wanted k).serial = x.settings.serial then x.count else reload k,
        phase := decide ((wanted k).serial = x.settings.serial) && x.phase,
        owed := if (wanted k).source = x.settings.source then x.owed else 0 }
    OnlyIn [.cdt, .stc] s t ∧ t.stc.panels = s.stc.panels
    ∧ (∀ j, j < 8 → let k := 2 * j
        let turned : Prop := (wanted k).cascade ≠ (s.channel k).settings.cascade
        let joined : Prop := (wanted k).cascade = true
        (turned → t.channel k = restarted k)
        ∧ (turned → ¬ joined → t.channel (k + 1) = restarted (k + 1))
        ∧ (turned → joined → t.channel (k + 1) = { s.channel (k + 1) with
            settings := wanted (k + 1), running := false, pending := .unset, phase := false,
            owed := 0 })
        ∧ (¬ turned → t.channel k = taken k)
        ∧ (¬ turned → ¬ joined → t.channel (k + 1) = taken (k + 1))
        ∧ (¬ turned → joined → t.channel (k + 1) = { s.channel (k + 1) with
            settings := wanted (k + 1), phase := (t.channel k).phase }))
    ∧ ((∀ k, k < 16 → (t.channel k).phase = (s.channel k).phase) → t.stc = s.stc)
    ∧ (∀ k, k < 16 → (t.channel k).phase ≠ (s.channel k).phase → ∀ i, i < 16 → t.string i =
        if (s.string i).state = .running then { s.string i with syncPending := true }
        else s.string i))

/-! ## Invariants -/

/-- No step makes a queue longer than the spec lets it be: 16 staged events, 8 fill entries, 8 quarantined ids,
8 distinct urgent addresses (R96, R126, R129, R150). -/
def Obligations.QueuesKeepTheirBounds : Prop :=
  ∀ s t : State, queuesBounded s → step s = .next t → queuesBounded t

/-- Every step keeps every routing entry within the check of R28 and its cursor a route (R28, R89, R91). -/
def Obligations.RoutingStaysValid : Prop :=
  ∀ s t : State, routingValid s → step s = .next t → routingValid t

/-- Every step keeps the ticket law: a WAITING session holds a ticket from 1 to 65,535 that no other session
holds, and a session that is not WAITING holds none (R70, R79, R86). -/
def Obligations.TicketsStayDistinct : Prop :=
  ∀ s t : State, ticketLaw s → step s = .next t → ticketLaw t

/-- The state after reset meets every condition that the steps keep. -/
def Obligations.ResetMeetsTheInvariants : Prop :=
  anchorAligned State.reset ∧ routingValid State.reset ∧ sessionsNeedPresence State.reset
    ∧ queuesBounded State.reset ∧ ticketLaw State.reset
end

