-- ==== Sys2Proof/Laws/State.lean ====
section
/-! SUPPORT. One lemma for each field of State under each replacement of a field. -/

namespace Sys2Proof.Machine

@[simp] theorem State.withWin_win (s : State) (x : Window) : (s.withWin x).win = x := rfl
@[simp] theorem State.withWin_cause (s : State) (x : Window) : (s.withWin x).cause = s.cause := rfl
@[simp] theorem State.withWin_dev (s : State) (x : Window) : (s.withWin x).dev = s.dev := rfl
@[simp] theorem State.withWin_hdr (s : State) (x : Window) : (s.withWin x).hdr = s.hdr := rfl
@[simp] theorem State.withWin_port (s : State) (x : Window) : (s.withWin x).port = s.port := rfl
@[simp] theorem State.withWin_scan (s : State) (x : Window) : (s.withWin x).scan = s.scan := rfl
@[simp] theorem State.withWin_mir (s : State) (x : Window) : (s.withWin x).mir = s.mir := rfl
@[simp] theorem State.withWin_ddir (s : State) (x : Window) : (s.withWin x).ddir = s.ddir := rfl
@[simp] theorem State.withWin_cmp (s : State) (x : Window) : (s.withWin x).cmp = s.cmp := rfl
@[simp] theorem State.withWin_clu (s : State) (x : Window) : (s.withWin x).clu = s.clu := rfl
@[simp] theorem State.withWin_drq (s : State) (x : Window) : (s.withWin x).drq = s.drq := rfl
@[simp] theorem State.withWin_eru (s : State) (x : Window) : (s.withWin x).eru = s.eru := rfl
@[simp] theorem State.withWin_ovr (s : State) (x : Window) : (s.withWin x).ovr = s.ovr := rfl
@[simp] theorem State.withWin_cst (s : State) (x : Window) : (s.withWin x).cst = s.cst := rfl
@[simp] theorem State.withWin_stc (s : State) (x : Window) : (s.withWin x).stc = s.stc := rfl
@[simp] theorem State.withWin_cdt (s : State) (x : Window) : (s.withWin x).cdt = s.cdt := rfl
@[simp] theorem State.withWin_dpm (s : State) (x : Window) : (s.withWin x).dpm = s.dpm := rfl
@[simp] theorem State.withWin_freeUsed (s : State) (x : Window) : (s.withWin x).freeUsed = s.freeUsed := rfl
@[simp] theorem State.withWin_pending (s : State) (x : Window) : (s.withWin x).pending = s.pending := rfl
@[simp] theorem State.withWin_withWin (s : State) (x y : Window) : (s.withWin x).withWin y = s.withWin y := rfl
@[simp] theorem State.withWin_self (s : State) : s.withWin s.win = s := rfl

@[simp] theorem State.withCause_win (s : State) (x : BitVec 15) : (s.withCause x).win = s.win := rfl
@[simp] theorem State.withCause_cause (s : State) (x : BitVec 15) : (s.withCause x).cause = x := rfl
@[simp] theorem State.withCause_dev (s : State) (x : BitVec 15) : (s.withCause x).dev = s.dev := rfl
@[simp] theorem State.withCause_hdr (s : State) (x : BitVec 15) : (s.withCause x).hdr = s.hdr := rfl
@[simp] theorem State.withCause_port (s : State) (x : BitVec 15) : (s.withCause x).port = s.port := rfl
@[simp] theorem State.withCause_scan (s : State) (x : BitVec 15) : (s.withCause x).scan = s.scan := rfl
@[simp] theorem State.withCause_mir (s : State) (x : BitVec 15) : (s.withCause x).mir = s.mir := rfl
@[simp] theorem State.withCause_ddir (s : State) (x : BitVec 15) : (s.withCause x).ddir = s.ddir := rfl
@[simp] theorem State.withCause_cmp (s : State) (x : BitVec 15) : (s.withCause x).cmp = s.cmp := rfl
@[simp] theorem State.withCause_clu (s : State) (x : BitVec 15) : (s.withCause x).clu = s.clu := rfl
@[simp] theorem State.withCause_drq (s : State) (x : BitVec 15) : (s.withCause x).drq = s.drq := rfl
@[simp] theorem State.withCause_eru (s : State) (x : BitVec 15) : (s.withCause x).eru = s.eru := rfl
@[simp] theorem State.withCause_ovr (s : State) (x : BitVec 15) : (s.withCause x).ovr = s.ovr := rfl
@[simp] theorem State.withCause_cst (s : State) (x : BitVec 15) : (s.withCause x).cst = s.cst := rfl
@[simp] theorem State.withCause_stc (s : State) (x : BitVec 15) : (s.withCause x).stc = s.stc := rfl
@[simp] theorem State.withCause_cdt (s : State) (x : BitVec 15) : (s.withCause x).cdt = s.cdt := rfl
@[simp] theorem State.withCause_dpm (s : State) (x : BitVec 15) : (s.withCause x).dpm = s.dpm := rfl
@[simp] theorem State.withCause_freeUsed (s : State) (x : BitVec 15) : (s.withCause x).freeUsed = s.freeUsed := rfl
@[simp] theorem State.withCause_pending (s : State) (x : BitVec 15) : (s.withCause x).pending = s.pending := rfl
@[simp] theorem State.withCause_withCause (s : State) (x y : BitVec 15) : (s.withCause x).withCause y = s.withCause y := rfl
@[simp] theorem State.withCause_self (s : State) : s.withCause s.cause = s := rfl

@[simp] theorem State.withDev_win (s : State) (x : Device) : (s.withDev x).win = s.win := rfl
@[simp] theorem State.withDev_cause (s : State) (x : Device) : (s.withDev x).cause = s.cause := rfl
@[simp] theorem State.withDev_dev (s : State) (x : Device) : (s.withDev x).dev = x := rfl
@[simp] theorem State.withDev_hdr (s : State) (x : Device) : (s.withDev x).hdr = s.hdr := rfl
@[simp] theorem State.withDev_port (s : State) (x : Device) : (s.withDev x).port = s.port := rfl
@[simp] theorem State.withDev_scan (s : State) (x : Device) : (s.withDev x).scan = s.scan := rfl
@[simp] theorem State.withDev_mir (s : State) (x : Device) : (s.withDev x).mir = s.mir := rfl
@[simp] theorem State.withDev_ddir (s : State) (x : Device) : (s.withDev x).ddir = s.ddir := rfl
@[simp] theorem State.withDev_cmp (s : State) (x : Device) : (s.withDev x).cmp = s.cmp := rfl
@[simp] theorem State.withDev_clu (s : State) (x : Device) : (s.withDev x).clu = s.clu := rfl
@[simp] theorem State.withDev_drq (s : State) (x : Device) : (s.withDev x).drq = s.drq := rfl
@[simp] theorem State.withDev_eru (s : State) (x : Device) : (s.withDev x).eru = s.eru := rfl
@[simp] theorem State.withDev_ovr (s : State) (x : Device) : (s.withDev x).ovr = s.ovr := rfl
@[simp] theorem State.withDev_cst (s : State) (x : Device) : (s.withDev x).cst = s.cst := rfl
@[simp] theorem State.withDev_stc (s : State) (x : Device) : (s.withDev x).stc = s.stc := rfl
@[simp] theorem State.withDev_cdt (s : State) (x : Device) : (s.withDev x).cdt = s.cdt := rfl
@[simp] theorem State.withDev_dpm (s : State) (x : Device) : (s.withDev x).dpm = s.dpm := rfl
@[simp] theorem State.withDev_freeUsed (s : State) (x : Device) : (s.withDev x).freeUsed = s.freeUsed := rfl
@[simp] theorem State.withDev_pending (s : State) (x : Device) : (s.withDev x).pending = s.pending := rfl
@[simp] theorem State.withDev_withDev (s : State) (x y : Device) : (s.withDev x).withDev y = s.withDev y := rfl
@[simp] theorem State.withDev_self (s : State) : s.withDev s.dev = s := rfl

@[simp] theorem State.withHdr_win (s : State) (x : HeaderSettings) : (s.withHdr x).win = s.win := rfl
@[simp] theorem State.withHdr_cause (s : State) (x : HeaderSettings) : (s.withHdr x).cause = s.cause := rfl
@[simp] theorem State.withHdr_dev (s : State) (x : HeaderSettings) : (s.withHdr x).dev = s.dev := rfl
@[simp] theorem State.withHdr_hdr (s : State) (x : HeaderSettings) : (s.withHdr x).hdr = x := rfl
@[simp] theorem State.withHdr_port (s : State) (x : HeaderSettings) : (s.withHdr x).port = s.port := rfl
@[simp] theorem State.withHdr_scan (s : State) (x : HeaderSettings) : (s.withHdr x).scan = s.scan := rfl
@[simp] theorem State.withHdr_mir (s : State) (x : HeaderSettings) : (s.withHdr x).mir = s.mir := rfl
@[simp] theorem State.withHdr_ddir (s : State) (x : HeaderSettings) : (s.withHdr x).ddir = s.ddir := rfl
@[simp] theorem State.withHdr_cmp (s : State) (x : HeaderSettings) : (s.withHdr x).cmp = s.cmp := rfl
@[simp] theorem State.withHdr_clu (s : State) (x : HeaderSettings) : (s.withHdr x).clu = s.clu := rfl
@[simp] theorem State.withHdr_drq (s : State) (x : HeaderSettings) : (s.withHdr x).drq = s.drq := rfl
@[simp] theorem State.withHdr_eru (s : State) (x : HeaderSettings) : (s.withHdr x).eru = s.eru := rfl
@[simp] theorem State.withHdr_ovr (s : State) (x : HeaderSettings) : (s.withHdr x).ovr = s.ovr := rfl
@[simp] theorem State.withHdr_cst (s : State) (x : HeaderSettings) : (s.withHdr x).cst = s.cst := rfl
@[simp] theorem State.withHdr_stc (s : State) (x : HeaderSettings) : (s.withHdr x).stc = s.stc := rfl
@[simp] theorem State.withHdr_cdt (s : State) (x : HeaderSettings) : (s.withHdr x).cdt = s.cdt := rfl
@[simp] theorem State.withHdr_dpm (s : State) (x : HeaderSettings) : (s.withHdr x).dpm = s.dpm := rfl
@[simp] theorem State.withHdr_freeUsed (s : State) (x : HeaderSettings) : (s.withHdr x).freeUsed = s.freeUsed := rfl
@[simp] theorem State.withHdr_pending (s : State) (x : HeaderSettings) : (s.withHdr x).pending = s.pending := rfl
@[simp] theorem State.withHdr_withHdr (s : State) (x y : HeaderSettings) : (s.withHdr x).withHdr y = s.withHdr y := rfl
@[simp] theorem State.withHdr_self (s : State) : s.withHdr s.hdr = s := rfl

@[simp] theorem State.withPort_win (s : State) (x : Port) : (s.withPort x).win = s.win := rfl
@[simp] theorem State.withPort_cause (s : State) (x : Port) : (s.withPort x).cause = s.cause := rfl
@[simp] theorem State.withPort_dev (s : State) (x : Port) : (s.withPort x).dev = s.dev := rfl
@[simp] theorem State.withPort_hdr (s : State) (x : Port) : (s.withPort x).hdr = s.hdr := rfl
@[simp] theorem State.withPort_port (s : State) (x : Port) : (s.withPort x).port = x := rfl
@[simp] theorem State.withPort_scan (s : State) (x : Port) : (s.withPort x).scan = s.scan := rfl
@[simp] theorem State.withPort_mir (s : State) (x : Port) : (s.withPort x).mir = s.mir := rfl
@[simp] theorem State.withPort_ddir (s : State) (x : Port) : (s.withPort x).ddir = s.ddir := rfl
@[simp] theorem State.withPort_cmp (s : State) (x : Port) : (s.withPort x).cmp = s.cmp := rfl
@[simp] theorem State.withPort_clu (s : State) (x : Port) : (s.withPort x).clu = s.clu := rfl
@[simp] theorem State.withPort_drq (s : State) (x : Port) : (s.withPort x).drq = s.drq := rfl
@[simp] theorem State.withPort_eru (s : State) (x : Port) : (s.withPort x).eru = s.eru := rfl
@[simp] theorem State.withPort_ovr (s : State) (x : Port) : (s.withPort x).ovr = s.ovr := rfl
@[simp] theorem State.withPort_cst (s : State) (x : Port) : (s.withPort x).cst = s.cst := rfl
@[simp] theorem State.withPort_stc (s : State) (x : Port) : (s.withPort x).stc = s.stc := rfl
@[simp] theorem State.withPort_cdt (s : State) (x : Port) : (s.withPort x).cdt = s.cdt := rfl
@[simp] theorem State.withPort_dpm (s : State) (x : Port) : (s.withPort x).dpm = s.dpm := rfl
@[simp] theorem State.withPort_freeUsed (s : State) (x : Port) : (s.withPort x).freeUsed = s.freeUsed := rfl
@[simp] theorem State.withPort_pending (s : State) (x : Port) : (s.withPort x).pending = s.pending := rfl
@[simp] theorem State.withPort_withPort (s : State) (x y : Port) : (s.withPort x).withPort y = s.withPort y := rfl
@[simp] theorem State.withPort_self (s : State) : s.withPort s.port = s := rfl

@[simp] theorem State.withScan_win (s : State) (x : Scanner) : (s.withScan x).win = s.win := rfl
@[simp] theorem State.withScan_cause (s : State) (x : Scanner) : (s.withScan x).cause = s.cause := rfl
@[simp] theorem State.withScan_dev (s : State) (x : Scanner) : (s.withScan x).dev = s.dev := rfl
@[simp] theorem State.withScan_hdr (s : State) (x : Scanner) : (s.withScan x).hdr = s.hdr := rfl
@[simp] theorem State.withScan_port (s : State) (x : Scanner) : (s.withScan x).port = s.port := rfl
@[simp] theorem State.withScan_scan (s : State) (x : Scanner) : (s.withScan x).scan = x := rfl
@[simp] theorem State.withScan_mir (s : State) (x : Scanner) : (s.withScan x).mir = s.mir := rfl
@[simp] theorem State.withScan_ddir (s : State) (x : Scanner) : (s.withScan x).ddir = s.ddir := rfl
@[simp] theorem State.withScan_cmp (s : State) (x : Scanner) : (s.withScan x).cmp = s.cmp := rfl
@[simp] theorem State.withScan_clu (s : State) (x : Scanner) : (s.withScan x).clu = s.clu := rfl
@[simp] theorem State.withScan_drq (s : State) (x : Scanner) : (s.withScan x).drq = s.drq := rfl
@[simp] theorem State.withScan_eru (s : State) (x : Scanner) : (s.withScan x).eru = s.eru := rfl
@[simp] theorem State.withScan_ovr (s : State) (x : Scanner) : (s.withScan x).ovr = s.ovr := rfl
@[simp] theorem State.withScan_cst (s : State) (x : Scanner) : (s.withScan x).cst = s.cst := rfl
@[simp] theorem State.withScan_stc (s : State) (x : Scanner) : (s.withScan x).stc = s.stc := rfl
@[simp] theorem State.withScan_cdt (s : State) (x : Scanner) : (s.withScan x).cdt = s.cdt := rfl
@[simp] theorem State.withScan_dpm (s : State) (x : Scanner) : (s.withScan x).dpm = s.dpm := rfl
@[simp] theorem State.withScan_freeUsed (s : State) (x : Scanner) : (s.withScan x).freeUsed = s.freeUsed := rfl
@[simp] theorem State.withScan_pending (s : State) (x : Scanner) : (s.withScan x).pending = s.pending := rfl
@[simp] theorem State.withScan_withScan (s : State) (x y : Scanner) : (s.withScan x).withScan y = s.withScan y := rfl
@[simp] theorem State.withScan_self (s : State) : s.withScan s.scan = s := rfl

@[simp] theorem State.withMir_win (s : State) (x : Mirror) : (s.withMir x).win = s.win := rfl
@[simp] theorem State.withMir_cause (s : State) (x : Mirror) : (s.withMir x).cause = s.cause := rfl
@[simp] theorem State.withMir_dev (s : State) (x : Mirror) : (s.withMir x).dev = s.dev := rfl
@[simp] theorem State.withMir_hdr (s : State) (x : Mirror) : (s.withMir x).hdr = s.hdr := rfl
@[simp] theorem State.withMir_port (s : State) (x : Mirror) : (s.withMir x).port = s.port := rfl
@[simp] theorem State.withMir_scan (s : State) (x : Mirror) : (s.withMir x).scan = s.scan := rfl
@[simp] theorem State.withMir_mir (s : State) (x : Mirror) : (s.withMir x).mir = x := rfl
@[simp] theorem State.withMir_ddir (s : State) (x : Mirror) : (s.withMir x).ddir = s.ddir := rfl
@[simp] theorem State.withMir_cmp (s : State) (x : Mirror) : (s.withMir x).cmp = s.cmp := rfl
@[simp] theorem State.withMir_clu (s : State) (x : Mirror) : (s.withMir x).clu = s.clu := rfl
@[simp] theorem State.withMir_drq (s : State) (x : Mirror) : (s.withMir x).drq = s.drq := rfl
@[simp] theorem State.withMir_eru (s : State) (x : Mirror) : (s.withMir x).eru = s.eru := rfl
@[simp] theorem State.withMir_ovr (s : State) (x : Mirror) : (s.withMir x).ovr = s.ovr := rfl
@[simp] theorem State.withMir_cst (s : State) (x : Mirror) : (s.withMir x).cst = s.cst := rfl
@[simp] theorem State.withMir_stc (s : State) (x : Mirror) : (s.withMir x).stc = s.stc := rfl
@[simp] theorem State.withMir_cdt (s : State) (x : Mirror) : (s.withMir x).cdt = s.cdt := rfl
@[simp] theorem State.withMir_dpm (s : State) (x : Mirror) : (s.withMir x).dpm = s.dpm := rfl
@[simp] theorem State.withMir_freeUsed (s : State) (x : Mirror) : (s.withMir x).freeUsed = s.freeUsed := rfl
@[simp] theorem State.withMir_pending (s : State) (x : Mirror) : (s.withMir x).pending = s.pending := rfl
@[simp] theorem State.withMir_withMir (s : State) (x y : Mirror) : (s.withMir x).withMir y = s.withMir y := rfl
@[simp] theorem State.withMir_self (s : State) : s.withMir s.mir = s := rfl

@[simp] theorem State.withDdir_win (s : State) (x : Vector DisplayRecord 512) : (s.withDdir x).win = s.win := rfl
@[simp] theorem State.withDdir_cause (s : State) (x : Vector DisplayRecord 512) : (s.withDdir x).cause = s.cause := rfl
@[simp] theorem State.withDdir_dev (s : State) (x : Vector DisplayRecord 512) : (s.withDdir x).dev = s.dev := rfl
@[simp] theorem State.withDdir_hdr (s : State) (x : Vector DisplayRecord 512) : (s.withDdir x).hdr = s.hdr := rfl
@[simp] theorem State.withDdir_port (s : State) (x : Vector DisplayRecord 512) : (s.withDdir x).port = s.port := rfl
@[simp] theorem State.withDdir_scan (s : State) (x : Vector DisplayRecord 512) : (s.withDdir x).scan = s.scan := rfl
@[simp] theorem State.withDdir_mir (s : State) (x : Vector DisplayRecord 512) : (s.withDdir x).mir = s.mir := rfl
@[simp] theorem State.withDdir_ddir (s : State) (x : Vector DisplayRecord 512) : (s.withDdir x).ddir = x := rfl
@[simp] theorem State.withDdir_cmp (s : State) (x : Vector DisplayRecord 512) : (s.withDdir x).cmp = s.cmp := rfl
@[simp] theorem State.withDdir_clu (s : State) (x : Vector DisplayRecord 512) : (s.withDdir x).clu = s.clu := rfl
@[simp] theorem State.withDdir_drq (s : State) (x : Vector DisplayRecord 512) : (s.withDdir x).drq = s.drq := rfl
@[simp] theorem State.withDdir_eru (s : State) (x : Vector DisplayRecord 512) : (s.withDdir x).eru = s.eru := rfl
@[simp] theorem State.withDdir_ovr (s : State) (x : Vector DisplayRecord 512) : (s.withDdir x).ovr = s.ovr := rfl
@[simp] theorem State.withDdir_cst (s : State) (x : Vector DisplayRecord 512) : (s.withDdir x).cst = s.cst := rfl
@[simp] theorem State.withDdir_stc (s : State) (x : Vector DisplayRecord 512) : (s.withDdir x).stc = s.stc := rfl
@[simp] theorem State.withDdir_cdt (s : State) (x : Vector DisplayRecord 512) : (s.withDdir x).cdt = s.cdt := rfl
@[simp] theorem State.withDdir_dpm (s : State) (x : Vector DisplayRecord 512) : (s.withDdir x).dpm = s.dpm := rfl
@[simp] theorem State.withDdir_freeUsed (s : State) (x : Vector DisplayRecord 512) : (s.withDdir x).freeUsed = s.freeUsed := rfl
@[simp] theorem State.withDdir_pending (s : State) (x : Vector DisplayRecord 512) : (s.withDdir x).pending = s.pending := rfl
@[simp] theorem State.withDdir_withDdir (s : State) (x y : Vector DisplayRecord 512) : (s.withDdir x).withDdir y = s.withDdir y := rfl
@[simp] theorem State.withDdir_self (s : State) : s.withDdir s.ddir = s := rfl

@[simp] theorem State.withCmp_win (s : State) (x : Vector Composition 512) : (s.withCmp x).win = s.win := rfl
@[simp] theorem State.withCmp_cause (s : State) (x : Vector Composition 512) : (s.withCmp x).cause = s.cause := rfl
@[simp] theorem State.withCmp_dev (s : State) (x : Vector Composition 512) : (s.withCmp x).dev = s.dev := rfl
@[simp] theorem State.withCmp_hdr (s : State) (x : Vector Composition 512) : (s.withCmp x).hdr = s.hdr := rfl
@[simp] theorem State.withCmp_port (s : State) (x : Vector Composition 512) : (s.withCmp x).port = s.port := rfl
@[simp] theorem State.withCmp_scan (s : State) (x : Vector Composition 512) : (s.withCmp x).scan = s.scan := rfl
@[simp] theorem State.withCmp_mir (s : State) (x : Vector Composition 512) : (s.withCmp x).mir = s.mir := rfl
@[simp] theorem State.withCmp_ddir (s : State) (x : Vector Composition 512) : (s.withCmp x).ddir = s.ddir := rfl
@[simp] theorem State.withCmp_cmp (s : State) (x : Vector Composition 512) : (s.withCmp x).cmp = x := rfl
@[simp] theorem State.withCmp_clu (s : State) (x : Vector Composition 512) : (s.withCmp x).clu = s.clu := rfl
@[simp] theorem State.withCmp_drq (s : State) (x : Vector Composition 512) : (s.withCmp x).drq = s.drq := rfl
@[simp] theorem State.withCmp_eru (s : State) (x : Vector Composition 512) : (s.withCmp x).eru = s.eru := rfl
@[simp] theorem State.withCmp_ovr (s : State) (x : Vector Composition 512) : (s.withCmp x).ovr = s.ovr := rfl
@[simp] theorem State.withCmp_cst (s : State) (x : Vector Composition 512) : (s.withCmp x).cst = s.cst := rfl
@[simp] theorem State.withCmp_stc (s : State) (x : Vector Composition 512) : (s.withCmp x).stc = s.stc := rfl
@[simp] theorem State.withCmp_cdt (s : State) (x : Vector Composition 512) : (s.withCmp x).cdt = s.cdt := rfl
@[simp] theorem State.withCmp_dpm (s : State) (x : Vector Composition 512) : (s.withCmp x).dpm = s.dpm := rfl
@[simp] theorem State.withCmp_freeUsed (s : State) (x : Vector Composition 512) : (s.withCmp x).freeUsed = s.freeUsed := rfl
@[simp] theorem State.withCmp_pending (s : State) (x : Vector Composition 512) : (s.withCmp x).pending = s.pending := rfl
@[simp] theorem State.withCmp_withCmp (s : State) (x y : Vector Composition 512) : (s.withCmp x).withCmp y = s.withCmp y := rfl
@[simp] theorem State.withCmp_self (s : State) : s.withCmp s.cmp = s := rfl

@[simp] theorem State.withClu_win (s : State) (x : Clu) : (s.withClu x).win = s.win := rfl
@[simp] theorem State.withClu_cause (s : State) (x : Clu) : (s.withClu x).cause = s.cause := rfl
@[simp] theorem State.withClu_dev (s : State) (x : Clu) : (s.withClu x).dev = s.dev := rfl
@[simp] theorem State.withClu_hdr (s : State) (x : Clu) : (s.withClu x).hdr = s.hdr := rfl
@[simp] theorem State.withClu_port (s : State) (x : Clu) : (s.withClu x).port = s.port := rfl
@[simp] theorem State.withClu_scan (s : State) (x : Clu) : (s.withClu x).scan = s.scan := rfl
@[simp] theorem State.withClu_mir (s : State) (x : Clu) : (s.withClu x).mir = s.mir := rfl
@[simp] theorem State.withClu_ddir (s : State) (x : Clu) : (s.withClu x).ddir = s.ddir := rfl
@[simp] theorem State.withClu_cmp (s : State) (x : Clu) : (s.withClu x).cmp = s.cmp := rfl
@[simp] theorem State.withClu_clu (s : State) (x : Clu) : (s.withClu x).clu = x := rfl
@[simp] theorem State.withClu_drq (s : State) (x : Clu) : (s.withClu x).drq = s.drq := rfl
@[simp] theorem State.withClu_eru (s : State) (x : Clu) : (s.withClu x).eru = s.eru := rfl
@[simp] theorem State.withClu_ovr (s : State) (x : Clu) : (s.withClu x).ovr = s.ovr := rfl
@[simp] theorem State.withClu_cst (s : State) (x : Clu) : (s.withClu x).cst = s.cst := rfl
@[simp] theorem State.withClu_stc (s : State) (x : Clu) : (s.withClu x).stc = s.stc := rfl
@[simp] theorem State.withClu_cdt (s : State) (x : Clu) : (s.withClu x).cdt = s.cdt := rfl
@[simp] theorem State.withClu_dpm (s : State) (x : Clu) : (s.withClu x).dpm = s.dpm := rfl
@[simp] theorem State.withClu_freeUsed (s : State) (x : Clu) : (s.withClu x).freeUsed = s.freeUsed := rfl
@[simp] theorem State.withClu_pending (s : State) (x : Clu) : (s.withClu x).pending = s.pending := rfl
@[simp] theorem State.withClu_withClu (s : State) (x y : Clu) : (s.withClu x).withClu y = s.withClu y := rfl
@[simp] theorem State.withClu_self (s : State) : s.withClu s.clu = s := rfl

@[simp] theorem State.withDrq_win (s : State) (x : Drq) : (s.withDrq x).win = s.win := rfl
@[simp] theorem State.withDrq_cause (s : State) (x : Drq) : (s.withDrq x).cause = s.cause := rfl
@[simp] theorem State.withDrq_dev (s : State) (x : Drq) : (s.withDrq x).dev = s.dev := rfl
@[simp] theorem State.withDrq_hdr (s : State) (x : Drq) : (s.withDrq x).hdr = s.hdr := rfl
@[simp] theorem State.withDrq_port (s : State) (x : Drq) : (s.withDrq x).port = s.port := rfl
@[simp] theorem State.withDrq_scan (s : State) (x : Drq) : (s.withDrq x).scan = s.scan := rfl
@[simp] theorem State.withDrq_mir (s : State) (x : Drq) : (s.withDrq x).mir = s.mir := rfl
@[simp] theorem State.withDrq_ddir (s : State) (x : Drq) : (s.withDrq x).ddir = s.ddir := rfl
@[simp] theorem State.withDrq_cmp (s : State) (x : Drq) : (s.withDrq x).cmp = s.cmp := rfl
@[simp] theorem State.withDrq_clu (s : State) (x : Drq) : (s.withDrq x).clu = s.clu := rfl
@[simp] theorem State.withDrq_drq (s : State) (x : Drq) : (s.withDrq x).drq = x := rfl
@[simp] theorem State.withDrq_eru (s : State) (x : Drq) : (s.withDrq x).eru = s.eru := rfl
@[simp] theorem State.withDrq_ovr (s : State) (x : Drq) : (s.withDrq x).ovr = s.ovr := rfl
@[simp] theorem State.withDrq_cst (s : State) (x : Drq) : (s.withDrq x).cst = s.cst := rfl
@[simp] theorem State.withDrq_stc (s : State) (x : Drq) : (s.withDrq x).stc = s.stc := rfl
@[simp] theorem State.withDrq_cdt (s : State) (x : Drq) : (s.withDrq x).cdt = s.cdt := rfl
@[simp] theorem State.withDrq_dpm (s : State) (x : Drq) : (s.withDrq x).dpm = s.dpm := rfl
@[simp] theorem State.withDrq_freeUsed (s : State) (x : Drq) : (s.withDrq x).freeUsed = s.freeUsed := rfl
@[simp] theorem State.withDrq_pending (s : State) (x : Drq) : (s.withDrq x).pending = s.pending := rfl
@[simp] theorem State.withDrq_withDrq (s : State) (x y : Drq) : (s.withDrq x).withDrq y = s.withDrq y := rfl
@[simp] theorem State.withDrq_self (s : State) : s.withDrq s.drq = s := rfl

@[simp] theorem State.withEru_win (s : State) (x : Eru) : (s.withEru x).win = s.win := rfl
@[simp] theorem State.withEru_cause (s : State) (x : Eru) : (s.withEru x).cause = s.cause := rfl
@[simp] theorem State.withEru_dev (s : State) (x : Eru) : (s.withEru x).dev = s.dev := rfl
@[simp] theorem State.withEru_hdr (s : State) (x : Eru) : (s.withEru x).hdr = s.hdr := rfl
@[simp] theorem State.withEru_port (s : State) (x : Eru) : (s.withEru x).port = s.port := rfl
@[simp] theorem State.withEru_scan (s : State) (x : Eru) : (s.withEru x).scan = s.scan := rfl
@[simp] theorem State.withEru_mir (s : State) (x : Eru) : (s.withEru x).mir = s.mir := rfl
@[simp] theorem State.withEru_ddir (s : State) (x : Eru) : (s.withEru x).ddir = s.ddir := rfl
@[simp] theorem State.withEru_cmp (s : State) (x : Eru) : (s.withEru x).cmp = s.cmp := rfl
@[simp] theorem State.withEru_clu (s : State) (x : Eru) : (s.withEru x).clu = s.clu := rfl
@[simp] theorem State.withEru_drq (s : State) (x : Eru) : (s.withEru x).drq = s.drq := rfl
@[simp] theorem State.withEru_eru (s : State) (x : Eru) : (s.withEru x).eru = x := rfl
@[simp] theorem State.withEru_ovr (s : State) (x : Eru) : (s.withEru x).ovr = s.ovr := rfl
@[simp] theorem State.withEru_cst (s : State) (x : Eru) : (s.withEru x).cst = s.cst := rfl
@[simp] theorem State.withEru_stc (s : State) (x : Eru) : (s.withEru x).stc = s.stc := rfl
@[simp] theorem State.withEru_cdt (s : State) (x : Eru) : (s.withEru x).cdt = s.cdt := rfl
@[simp] theorem State.withEru_dpm (s : State) (x : Eru) : (s.withEru x).dpm = s.dpm := rfl
@[simp] theorem State.withEru_freeUsed (s : State) (x : Eru) : (s.withEru x).freeUsed = s.freeUsed := rfl
@[simp] theorem State.withEru_pending (s : State) (x : Eru) : (s.withEru x).pending = s.pending := rfl
@[simp] theorem State.withEru_withEru (s : State) (x y : Eru) : (s.withEru x).withEru y = s.withEru y := rfl
@[simp] theorem State.withEru_self (s : State) : s.withEru s.eru = s := rfl

@[simp] theorem State.withOvr_win (s : State) (x : Ovr) : (s.withOvr x).win = s.win := rfl
@[simp] theorem State.withOvr_cause (s : State) (x : Ovr) : (s.withOvr x).cause = s.cause := rfl
@[simp] theorem State.withOvr_dev (s : State) (x : Ovr) : (s.withOvr x).dev = s.dev := rfl
@[simp] theorem State.withOvr_hdr (s : State) (x : Ovr) : (s.withOvr x).hdr = s.hdr := rfl
@[simp] theorem State.withOvr_port (s : State) (x : Ovr) : (s.withOvr x).port = s.port := rfl
@[simp] theorem State.withOvr_scan (s : State) (x : Ovr) : (s.withOvr x).scan = s.scan := rfl
@[simp] theorem State.withOvr_mir (s : State) (x : Ovr) : (s.withOvr x).mir = s.mir := rfl
@[simp] theorem State.withOvr_ddir (s : State) (x : Ovr) : (s.withOvr x).ddir = s.ddir := rfl
@[simp] theorem State.withOvr_cmp (s : State) (x : Ovr) : (s.withOvr x).cmp = s.cmp := rfl
@[simp] theorem State.withOvr_clu (s : State) (x : Ovr) : (s.withOvr x).clu = s.clu := rfl
@[simp] theorem State.withOvr_drq (s : State) (x : Ovr) : (s.withOvr x).drq = s.drq := rfl
@[simp] theorem State.withOvr_eru (s : State) (x : Ovr) : (s.withOvr x).eru = s.eru := rfl
@[simp] theorem State.withOvr_ovr (s : State) (x : Ovr) : (s.withOvr x).ovr = x := rfl
@[simp] theorem State.withOvr_cst (s : State) (x : Ovr) : (s.withOvr x).cst = s.cst := rfl
@[simp] theorem State.withOvr_stc (s : State) (x : Ovr) : (s.withOvr x).stc = s.stc := rfl
@[simp] theorem State.withOvr_cdt (s : State) (x : Ovr) : (s.withOvr x).cdt = s.cdt := rfl
@[simp] theorem State.withOvr_dpm (s : State) (x : Ovr) : (s.withOvr x).dpm = s.dpm := rfl
@[simp] theorem State.withOvr_freeUsed (s : State) (x : Ovr) : (s.withOvr x).freeUsed = s.freeUsed := rfl
@[simp] theorem State.withOvr_pending (s : State) (x : Ovr) : (s.withOvr x).pending = s.pending := rfl
@[simp] theorem State.withOvr_withOvr (s : State) (x y : Ovr) : (s.withOvr x).withOvr y = s.withOvr y := rfl
@[simp] theorem State.withOvr_self (s : State) : s.withOvr s.ovr = s := rfl

@[simp] theorem State.withCst_win (s : State) (x : Cst) : (s.withCst x).win = s.win := rfl
@[simp] theorem State.withCst_cause (s : State) (x : Cst) : (s.withCst x).cause = s.cause := rfl
@[simp] theorem State.withCst_dev (s : State) (x : Cst) : (s.withCst x).dev = s.dev := rfl
@[simp] theorem State.withCst_hdr (s : State) (x : Cst) : (s.withCst x).hdr = s.hdr := rfl
@[simp] theorem State.withCst_port (s : State) (x : Cst) : (s.withCst x).port = s.port := rfl
@[simp] theorem State.withCst_scan (s : State) (x : Cst) : (s.withCst x).scan = s.scan := rfl
@[simp] theorem State.withCst_mir (s : State) (x : Cst) : (s.withCst x).mir = s.mir := rfl
@[simp] theorem State.withCst_ddir (s : State) (x : Cst) : (s.withCst x).ddir = s.ddir := rfl
@[simp] theorem State.withCst_cmp (s : State) (x : Cst) : (s.withCst x).cmp = s.cmp := rfl
@[simp] theorem State.withCst_clu (s : State) (x : Cst) : (s.withCst x).clu = s.clu := rfl
@[simp] theorem State.withCst_drq (s : State) (x : Cst) : (s.withCst x).drq = s.drq := rfl
@[simp] theorem State.withCst_eru (s : State) (x : Cst) : (s.withCst x).eru = s.eru := rfl
@[simp] theorem State.withCst_ovr (s : State) (x : Cst) : (s.withCst x).ovr = s.ovr := rfl
@[simp] theorem State.withCst_cst (s : State) (x : Cst) : (s.withCst x).cst = x := rfl
@[simp] theorem State.withCst_stc (s : State) (x : Cst) : (s.withCst x).stc = s.stc := rfl
@[simp] theorem State.withCst_cdt (s : State) (x : Cst) : (s.withCst x).cdt = s.cdt := rfl
@[simp] theorem State.withCst_dpm (s : State) (x : Cst) : (s.withCst x).dpm = s.dpm := rfl
@[simp] theorem State.withCst_freeUsed (s : State) (x : Cst) : (s.withCst x).freeUsed = s.freeUsed := rfl
@[simp] theorem State.withCst_pending (s : State) (x : Cst) : (s.withCst x).pending = s.pending := rfl
@[simp] theorem State.withCst_withCst (s : State) (x y : Cst) : (s.withCst x).withCst y = s.withCst y := rfl
@[simp] theorem State.withCst_self (s : State) : s.withCst s.cst = s := rfl

@[simp] theorem State.withStc_win (s : State) (x : Stc) : (s.withStc x).win = s.win := rfl
@[simp] theorem State.withStc_cause (s : State) (x : Stc) : (s.withStc x).cause = s.cause := rfl
@[simp] theorem State.withStc_dev (s : State) (x : Stc) : (s.withStc x).dev = s.dev := rfl
@[simp] theorem State.withStc_hdr (s : State) (x : Stc) : (s.withStc x).hdr = s.hdr := rfl
@[simp] theorem State.withStc_port (s : State) (x : Stc) : (s.withStc x).port = s.port := rfl
@[simp] theorem State.withStc_scan (s : State) (x : Stc) : (s.withStc x).scan = s.scan := rfl
@[simp] theorem State.withStc_mir (s : State) (x : Stc) : (s.withStc x).mir = s.mir := rfl
@[simp] theorem State.withStc_ddir (s : State) (x : Stc) : (s.withStc x).ddir = s.ddir := rfl
@[simp] theorem State.withStc_cmp (s : State) (x : Stc) : (s.withStc x).cmp = s.cmp := rfl
@[simp] theorem State.withStc_clu (s : State) (x : Stc) : (s.withStc x).clu = s.clu := rfl
@[simp] theorem State.withStc_drq (s : State) (x : Stc) : (s.withStc x).drq = s.drq := rfl
@[simp] theorem State.withStc_eru (s : State) (x : Stc) : (s.withStc x).eru = s.eru := rfl
@[simp] theorem State.withStc_ovr (s : State) (x : Stc) : (s.withStc x).ovr = s.ovr := rfl
@[simp] theorem State.withStc_cst (s : State) (x : Stc) : (s.withStc x).cst = s.cst := rfl
@[simp] theorem State.withStc_stc (s : State) (x : Stc) : (s.withStc x).stc = x := rfl
@[simp] theorem State.withStc_cdt (s : State) (x : Stc) : (s.withStc x).cdt = s.cdt := rfl
@[simp] theorem State.withStc_dpm (s : State) (x : Stc) : (s.withStc x).dpm = s.dpm := rfl
@[simp] theorem State.withStc_freeUsed (s : State) (x : Stc) : (s.withStc x).freeUsed = s.freeUsed := rfl
@[simp] theorem State.withStc_pending (s : State) (x : Stc) : (s.withStc x).pending = s.pending := rfl
@[simp] theorem State.withStc_withStc (s : State) (x y : Stc) : (s.withStc x).withStc y = s.withStc y := rfl
@[simp] theorem State.withStc_self (s : State) : s.withStc s.stc = s := rfl

@[simp] theorem State.withCdt_win (s : State) (x : Vector Channel 16) : (s.withCdt x).win = s.win := rfl
@[simp] theorem State.withCdt_cause (s : State) (x : Vector Channel 16) : (s.withCdt x).cause = s.cause := rfl
@[simp] theorem State.withCdt_dev (s : State) (x : Vector Channel 16) : (s.withCdt x).dev = s.dev := rfl
@[simp] theorem State.withCdt_hdr (s : State) (x : Vector Channel 16) : (s.withCdt x).hdr = s.hdr := rfl
@[simp] theorem State.withCdt_port (s : State) (x : Vector Channel 16) : (s.withCdt x).port = s.port := rfl
@[simp] theorem State.withCdt_scan (s : State) (x : Vector Channel 16) : (s.withCdt x).scan = s.scan := rfl
@[simp] theorem State.withCdt_mir (s : State) (x : Vector Channel 16) : (s.withCdt x).mir = s.mir := rfl
@[simp] theorem State.withCdt_ddir (s : State) (x : Vector Channel 16) : (s.withCdt x).ddir = s.ddir := rfl
@[simp] theorem State.withCdt_cmp (s : State) (x : Vector Channel 16) : (s.withCdt x).cmp = s.cmp := rfl
@[simp] theorem State.withCdt_clu (s : State) (x : Vector Channel 16) : (s.withCdt x).clu = s.clu := rfl
@[simp] theorem State.withCdt_drq (s : State) (x : Vector Channel 16) : (s.withCdt x).drq = s.drq := rfl
@[simp] theorem State.withCdt_eru (s : State) (x : Vector Channel 16) : (s.withCdt x).eru = s.eru := rfl
@[simp] theorem State.withCdt_ovr (s : State) (x : Vector Channel 16) : (s.withCdt x).ovr = s.ovr := rfl
@[simp] theorem State.withCdt_cst (s : State) (x : Vector Channel 16) : (s.withCdt x).cst = s.cst := rfl
@[simp] theorem State.withCdt_stc (s : State) (x : Vector Channel 16) : (s.withCdt x).stc = s.stc := rfl
@[simp] theorem State.withCdt_cdt (s : State) (x : Vector Channel 16) : (s.withCdt x).cdt = x := rfl
@[simp] theorem State.withCdt_dpm (s : State) (x : Vector Channel 16) : (s.withCdt x).dpm = s.dpm := rfl
@[simp] theorem State.withCdt_freeUsed (s : State) (x : Vector Channel 16) : (s.withCdt x).freeUsed = s.freeUsed := rfl
@[simp] theorem State.withCdt_pending (s : State) (x : Vector Channel 16) : (s.withCdt x).pending = s.pending := rfl
@[simp] theorem State.withCdt_withCdt (s : State) (x y : Vector Channel 16) : (s.withCdt x).withCdt y = s.withCdt y := rfl
@[simp] theorem State.withCdt_self (s : State) : s.withCdt s.cdt = s := rfl

@[simp] theorem State.withDpm_win (s : State) (x : Dpm) : (s.withDpm x).win = s.win := rfl
@[simp] theorem State.withDpm_cause (s : State) (x : Dpm) : (s.withDpm x).cause = s.cause := rfl
@[simp] theorem State.withDpm_dev (s : State) (x : Dpm) : (s.withDpm x).dev = s.dev := rfl
@[simp] theorem State.withDpm_hdr (s : State) (x : Dpm) : (s.withDpm x).hdr = s.hdr := rfl
@[simp] theorem State.withDpm_port (s : State) (x : Dpm) : (s.withDpm x).port = s.port := rfl
@[simp] theorem State.withDpm_scan (s : State) (x : Dpm) : (s.withDpm x).scan = s.scan := rfl
@[simp] theorem State.withDpm_mir (s : State) (x : Dpm) : (s.withDpm x).mir = s.mir := rfl
@[simp] theorem State.withDpm_ddir (s : State) (x : Dpm) : (s.withDpm x).ddir = s.ddir := rfl
@[simp] theorem State.withDpm_cmp (s : State) (x : Dpm) : (s.withDpm x).cmp = s.cmp := rfl
@[simp] theorem State.withDpm_clu (s : State) (x : Dpm) : (s.withDpm x).clu = s.clu := rfl
@[simp] theorem State.withDpm_drq (s : State) (x : Dpm) : (s.withDpm x).drq = s.drq := rfl
@[simp] theorem State.withDpm_eru (s : State) (x : Dpm) : (s.withDpm x).eru = s.eru := rfl
@[simp] theorem State.withDpm_ovr (s : State) (x : Dpm) : (s.withDpm x).ovr = s.ovr := rfl
@[simp] theorem State.withDpm_cst (s : State) (x : Dpm) : (s.withDpm x).cst = s.cst := rfl
@[simp] theorem State.withDpm_stc (s : State) (x : Dpm) : (s.withDpm x).stc = s.stc := rfl
@[simp] theorem State.withDpm_cdt (s : State) (x : Dpm) : (s.withDpm x).cdt = s.cdt := rfl
@[simp] theorem State.withDpm_dpm (s : State) (x : Dpm) : (s.withDpm x).dpm = x := rfl
@[simp] theorem State.withDpm_freeUsed (s : State) (x : Dpm) : (s.withDpm x).freeUsed = s.freeUsed := rfl
@[simp] theorem State.withDpm_pending (s : State) (x : Dpm) : (s.withDpm x).pending = s.pending := rfl
@[simp] theorem State.withDpm_withDpm (s : State) (x y : Dpm) : (s.withDpm x).withDpm y = s.withDpm y := rfl
@[simp] theorem State.withDpm_self (s : State) : s.withDpm s.dpm = s := rfl

@[simp] theorem State.withFreeUsed_win (s : State) (x : Nat) : (s.withFreeUsed x).win = s.win := rfl
@[simp] theorem State.withFreeUsed_cause (s : State) (x : Nat) : (s.withFreeUsed x).cause = s.cause := rfl
@[simp] theorem State.withFreeUsed_dev (s : State) (x : Nat) : (s.withFreeUsed x).dev = s.dev := rfl
@[simp] theorem State.withFreeUsed_hdr (s : State) (x : Nat) : (s.withFreeUsed x).hdr = s.hdr := rfl
@[simp] theorem State.withFreeUsed_port (s : State) (x : Nat) : (s.withFreeUsed x).port = s.port := rfl
@[simp] theorem State.withFreeUsed_scan (s : State) (x : Nat) : (s.withFreeUsed x).scan = s.scan := rfl
@[simp] theorem State.withFreeUsed_mir (s : State) (x : Nat) : (s.withFreeUsed x).mir = s.mir := rfl
@[simp] theorem State.withFreeUsed_ddir (s : State) (x : Nat) : (s.withFreeUsed x).ddir = s.ddir := rfl
@[simp] theorem State.withFreeUsed_cmp (s : State) (x : Nat) : (s.withFreeUsed x).cmp = s.cmp := rfl
@[simp] theorem State.withFreeUsed_clu (s : State) (x : Nat) : (s.withFreeUsed x).clu = s.clu := rfl
@[simp] theorem State.withFreeUsed_drq (s : State) (x : Nat) : (s.withFreeUsed x).drq = s.drq := rfl
@[simp] theorem State.withFreeUsed_eru (s : State) (x : Nat) : (s.withFreeUsed x).eru = s.eru := rfl
@[simp] theorem State.withFreeUsed_ovr (s : State) (x : Nat) : (s.withFreeUsed x).ovr = s.ovr := rfl
@[simp] theorem State.withFreeUsed_cst (s : State) (x : Nat) : (s.withFreeUsed x).cst = s.cst := rfl
@[simp] theorem State.withFreeUsed_stc (s : State) (x : Nat) : (s.withFreeUsed x).stc = s.stc := rfl
@[simp] theorem State.withFreeUsed_cdt (s : State) (x : Nat) : (s.withFreeUsed x).cdt = s.cdt := rfl
@[simp] theorem State.withFreeUsed_dpm (s : State) (x : Nat) : (s.withFreeUsed x).dpm = s.dpm := rfl
@[simp] theorem State.withFreeUsed_freeUsed (s : State) (x : Nat) : (s.withFreeUsed x).freeUsed = x := rfl
@[simp] theorem State.withFreeUsed_pending (s : State) (x : Nat) : (s.withFreeUsed x).pending = s.pending := rfl
@[simp] theorem State.withFreeUsed_withFreeUsed (s : State) (x y : Nat) : (s.withFreeUsed x).withFreeUsed y = s.withFreeUsed y := rfl
@[simp] theorem State.withFreeUsed_self (s : State) : s.withFreeUsed s.freeUsed = s := rfl

@[simp] theorem State.withPending_win (s : State) (x : List Instr) : (s.withPending x).win = s.win := rfl
@[simp] theorem State.withPending_cause (s : State) (x : List Instr) : (s.withPending x).cause = s.cause := rfl
@[simp] theorem State.withPending_dev (s : State) (x : List Instr) : (s.withPending x).dev = s.dev := rfl
@[simp] theorem State.withPending_hdr (s : State) (x : List Instr) : (s.withPending x).hdr = s.hdr := rfl
@[simp] theorem State.withPending_port (s : State) (x : List Instr) : (s.withPending x).port = s.port := rfl
@[simp] theorem State.withPending_scan (s : State) (x : List Instr) : (s.withPending x).scan = s.scan := rfl
@[simp] theorem State.withPending_mir (s : State) (x : List Instr) : (s.withPending x).mir = s.mir := rfl
@[simp] theorem State.withPending_ddir (s : State) (x : List Instr) : (s.withPending x).ddir = s.ddir := rfl
@[simp] theorem State.withPending_cmp (s : State) (x : List Instr) : (s.withPending x).cmp = s.cmp := rfl
@[simp] theorem State.withPending_clu (s : State) (x : List Instr) : (s.withPending x).clu = s.clu := rfl
@[simp] theorem State.withPending_drq (s : State) (x : List Instr) : (s.withPending x).drq = s.drq := rfl
@[simp] theorem State.withPending_eru (s : State) (x : List Instr) : (s.withPending x).eru = s.eru := rfl
@[simp] theorem State.withPending_ovr (s : State) (x : List Instr) : (s.withPending x).ovr = s.ovr := rfl
@[simp] theorem State.withPending_cst (s : State) (x : List Instr) : (s.withPending x).cst = s.cst := rfl
@[simp] theorem State.withPending_stc (s : State) (x : List Instr) : (s.withPending x).stc = s.stc := rfl
@[simp] theorem State.withPending_cdt (s : State) (x : List Instr) : (s.withPending x).cdt = s.cdt := rfl
@[simp] theorem State.withPending_dpm (s : State) (x : List Instr) : (s.withPending x).dpm = s.dpm := rfl
@[simp] theorem State.withPending_freeUsed (s : State) (x : List Instr) : (s.withPending x).freeUsed = s.freeUsed := rfl
@[simp] theorem State.withPending_pending (s : State) (x : List Instr) : (s.withPending x).pending = x := rfl
@[simp] theorem State.withPending_withPending (s : State) (x y : List Instr) : (s.withPending x).withPending y = s.withPending y := rfl
@[simp] theorem State.withPending_self (s : State) : s.withPending s.pending = s := rfl

end Sys2Proof.Machine
end

