-- ==== Sys2Proof/Laws/Tables.lean ====
section
/-! SUPPORT. What the tables and the loop of Machine/Tables.lean do, said once. -/

namespace Sys2Proof.Machine

variable {α β σ : Type} {n : Nat}

@[simp] theorem tget_tset_self (v : Vector α n) (i : Nat) (x d : α) (h : i < n) :
    tget (tset v i x) i d = x := by
  simp [tget, tset, List.getD_eq_getElem?_getD, h]

@[simp] theorem tget_tset_ne (v : Vector α n) (i j : Nat) (x d : α) (h : i ≠ j) :
    tget (tset v i x) j d = tget v j d := by
  simp [tget, tset, List.getD_eq_getElem?_getD, h]

theorem tget_tset (v : Vector α n) (i j : Nat) (x d : α) :
    tget (tset v i x) j d = if i = j ∧ i < n then x else tget v j d := by
  by_cases h : i = j
  · subst h
    by_cases h' : i < n
    · simp [h']
    · simp [h', tget, tset, List.getD_eq_getElem?_getD]
  · simp [h]

@[simp] theorem tget_replicate (i : Nat) (x : α) : tget (Vector.replicate n x) i x = x := by
  simp only [tget, List.getD_eq_getElem?_getD]
  by_cases h : i < n <;> simp [h]

@[simp] theorem tget_tmap (f : α → β) (v : Vector α n) (i : Nat) (d : α) :
    tget (tmap f v) i (f d) = f (tget v i d) := by
  simp only [tget, tmap, List.getD_eq_getElem?_getD, List.getElem?_map]
  cases v.toArray.toList[i]? <;> rfl

theorem tget_tmap_lt (f : α → β) (v : Vector α n) (i : Nat) (d : α) (d' : β) (h : i < n) :
    tget (tmap f v) i d' = f (tget v i d) := by
  simp [tget, tmap, List.getD_eq_getElem?_getD, h]

@[simp] theorem tget_tbuild (f : Nat → α) (i : Nat) (d : α) (h : i < n) :
    tget (tbuild n f) i d = f i := by
  simp [tget, tbuild, List.getD_eq_getElem?_getD, h]

theorem tget_ge (v : Vector α n) (i : Nat) (d : α) (h : n ≤ i) : tget v i d = d := by
  simp [tget, List.getD_eq_getElem?_getD, h]

/-- Two tables with equal entries are equal. -/
theorem table_ext (v w : Vector α n) (d : α) (h : ∀ i, i < n → tget v i d = tget w i d) : v = w := by
  apply Vector.ext
  intro i hi
  have := h i hi
  simpa [tget, List.getD_eq_getElem?_getD, hi] using this

theorem tset_tget_self (v : Vector α n) (i : Nat) (d : α) :
    tset v i (tget v i d) = v := by
  apply table_ext _ _ d
  intro j hj
  rw [tget_tset]
  split
  · next h' => rw [h'.1]
  · rfl

/-- A number stands in `twhere` exactly when its entry satisfies the predicate. -/
theorem mem_twhere (v : Vector α n) (p : α → Bool) (i : Nat) (d : α) :
    i ∈ twhere v p ↔ i < n ∧ p (tget v i d) = true := by
  simp only [twhere, tlist, tget, List.mem_map, List.mem_filter, Prod.exists, List.getD_eq_getElem?_getD]
  constructor
  · rintro ⟨a, b, ⟨hm, hp⟩, rfl⟩
    rw [List.mem_zipIdx_iff_getElem?] at hm
    simp only at hm hp
    have hlt : b < n := by
      have := (List.getElem?_eq_some_iff.mp hm).1
      simpa using this
    exact ⟨hlt, by rw [hm]; exact hp⟩
  · rintro ⟨h, hp⟩
    have hl : i < v.toArray.toList.length := by simpa using h
    refine ⟨v.toArray.toList[i], i, ⟨?_, ?_⟩, rfl⟩
    · rw [List.mem_zipIdx_iff_getElem?]
      exact List.getElem?_eq_getElem hl
    · rw [List.getElem?_eq_getElem hl] at hp
      exact hp

/-- No number stands twice in `twhere`. -/
theorem twhere_nodup (v : Vector α n) (p : α → Bool) : (twhere v p).Nodup := by
  have h : ((tlist v).zipIdx.map Prod.snd).Nodup := by
    rw [List.zipIdx_map_snd]; exact List.nodup_range'
  exact h.sublist ((List.filter_sublist).map Prod.snd)

@[simp] theorem each_nil (step : α → σ → σ) (s : σ) : each [] step s = s := rfl

@[simp] theorem each_cons (a : α) (l : List α) (step : α → σ → σ) (s : σ) :
    each (a :: l) step s = each l step (step a s) := rfl

theorem each_append (l m : List α) (step : α → σ → σ) (s : σ) :
    each (l ++ m) step s = each m step (each l step s) := by
  simp [each, List.foldl_append]

/-- What every step keeps, the whole loop keeps. -/
theorem each_keeps (P : σ → Prop) (l : List α) (step : α → σ → σ)
    (h : ∀ a s, P s → P (step a s)) (s : σ) (hs : P s) : P (each l step s) := by
  induction l generalizing s with
  | nil => exact hs
  | cons a l ih => exact ih _ (h a s hs)

/-- What every step leaves as it was, the whole loop leaves as it was. -/
theorem each_proj (π : σ → β) (l : List α) (step : α → σ → σ)
    (h : ∀ a s, π (step a s) = π s) (s : σ) : π (each l step s) = π s := by
  induction l generalizing s with
  | nil => rfl
  | cons a l ih => exact (ih _).trans (h a s)

@[simp] theorem leBytes_length (k n : Nat) : (leBytes k n).length = k := by
  induction k generalizing n with
  | zero => rfl
  | succ k ih => simp [leBytes, ih]

@[simp] theorem padTo_length (n : Nat) (b : List Byte) : (padTo n b).length = n := by
  simp [padTo]; omega

end Sys2Proof.Machine
end

