-- ==== Sys2Proof/Laws/Frames.lean ====
section
/-! SUPPORT. Which blocks of the state each operation keeps to: one lemma for each operation, said once, so
that what a command leaves alone follows without opening its meaning. -/

namespace Sys2Proof.Machine

set_option Elab.async false
set_option linter.unusedSimpArgs false

/-! ## The rules of `OnlyIn` -/

theorem OnlyIn.refl {bs : List Block} {s : State} : OnlyIn bs s s := fun b _ => by cases b <;> rfl

theorem Block.same_trans {b : Block} {s t u : State} (h : b.same s t) (k : b.same t u) :
    b.same s u := by
  cases b <;> exact Eq.trans k h

/-- An operation that keeps to some blocks, done after what keeps to more. -/
theorem OnlyIn.after {bs cs : List Block} {s t u : State} (k : OnlyIn cs t u)
    (sub : cs.all (fun b => decide (b ∈ bs)) = true) (h : OnlyIn bs s t) : OnlyIn bs s u := fun b hb =>
  Block.same_trans (h b hb) (k b fun hc => hb (of_decide_eq_true (List.all_eq_true.mp sub b hc)))

/-- What keeps to some blocks keeps to more. -/
theorem OnlyIn.mono {bs cs : List Block} {s t : State} (k : OnlyIn cs s t)
    (sub : cs.all (fun b => decide (b ∈ bs)) = true) : OnlyIn bs s t := OnlyIn.after k sub OnlyIn.refl

theorem OnlyIn.onlyIf {bs : List Block} {s t : State} {f : State → State} {c : Bool}
    (h : OnlyIn bs s t) (k : ∀ u, OnlyIn bs u (f u)) : OnlyIn bs s (onlyIf c f t) := fun b hb => by
  unfold Machine.onlyIf
  split
  · exact Block.same_trans (h b hb) (k t b hb)
  · exact h b hb

theorem OnlyIn.ite {bs : List Block} {s t u : State} {c : Prop} {inst : Decidable c}
    (h : OnlyIn bs s t) (k : OnlyIn bs s u) : OnlyIn bs s (if c then t else u) := by
  split
  · exact h
  · exact k

theorem OnlyIn.each {α : Type} {bs : List Block} {s t : State} {l : List α} {f : α → State → State}
    (h : OnlyIn bs s t) (k : ∀ a u, OnlyIn bs u (f a u)) : OnlyIn bs s (each l f t) := by
  induction l generalizing t with
  | nil => exact h
  | cons a l ih => exact ih fun b hb => Block.same_trans (h b hb) (k a t b hb)


/-! ## Replacing one field -/

theorem State.withWin_only {s : State} {x : Window} : OnlyIn [.win] s (s.withWin x) := by
  intro b hb; cases b <;> first | rfl | exact absurd List.mem_cons_self hb

theorem State.withCause_only {s : State} {x : BitVec 15} : OnlyIn [.cause] s (s.withCause x) := by
  intro b hb; cases b <;> first | rfl | exact absurd List.mem_cons_self hb

theorem State.withDev_only {s : State} {x : Device} : OnlyIn [.dev] s (s.withDev x) := by
  intro b hb; cases b <;> first | rfl | exact absurd List.mem_cons_self hb

theorem State.withHdr_only {s : State} {x : HeaderSettings} : OnlyIn [.hdr] s (s.withHdr x) := by
  intro b hb; cases b <;> first | rfl | exact absurd List.mem_cons_self hb

theorem State.withPort_only {s : State} {x : Port} : OnlyIn [.port] s (s.withPort x) := by
  intro b hb; cases b <;> first | rfl | exact absurd List.mem_cons_self hb

theorem State.withScan_only {s : State} {x : Scanner} : OnlyIn [.scan] s (s.withScan x) := by
  intro b hb; cases b <;> first | rfl | exact absurd List.mem_cons_self hb

theorem State.withMir_only {s : State} {x : Mirror} : OnlyIn [.mir] s (s.withMir x) := by
  intro b hb; cases b <;> first | rfl | exact absurd List.mem_cons_self hb

theorem State.withDdir_only {s : State} {x : Vector DisplayRecord 512} : OnlyIn [.ddir] s (s.withDdir x) := by
  intro b hb; cases b <;> first | rfl | exact absurd List.mem_cons_self hb

theorem State.withCmp_only {s : State} {x : Vector Composition 512} : OnlyIn [.cmp] s (s.withCmp x) := by
  intro b hb; cases b <;> first | rfl | exact absurd List.mem_cons_self hb

theorem State.withClu_only {s : State} {x : Clu} : OnlyIn [.clu] s (s.withClu x) := by
  intro b hb; cases b <;> first | rfl | exact absurd List.mem_cons_self hb

theorem State.withDrq_only {s : State} {x : Drq} : OnlyIn [.drq] s (s.withDrq x) := by
  intro b hb; cases b <;> first | rfl | exact absurd List.mem_cons_self hb

theorem State.withEru_only {s : State} {x : Eru} : OnlyIn [.eru] s (s.withEru x) := by
  intro b hb; cases b <;> first | rfl | exact absurd List.mem_cons_self hb

theorem State.withOvr_only {s : State} {x : Ovr} : OnlyIn [.ovr] s (s.withOvr x) := by
  intro b hb; cases b <;> first | rfl | exact absurd List.mem_cons_self hb

theorem State.withCst_only {s : State} {x : Cst} : OnlyIn [.cst] s (s.withCst x) := by
  intro b hb; cases b <;> first | rfl | exact absurd List.mem_cons_self hb

theorem State.withStc_only {s : State} {x : Stc} : OnlyIn [.stc] s (s.withStc x) := by
  intro b hb; cases b <;> first | rfl | exact absurd List.mem_cons_self hb

theorem State.withCdt_only {s : State} {x : Vector Channel 16} : OnlyIn [.cdt] s (s.withCdt x) := by
  intro b hb; cases b <;> first | rfl | exact absurd List.mem_cons_self hb

theorem State.withDpm_only {s : State} {x : Dpm} : OnlyIn [.dpm] s (s.withDpm x) := by
  intro b hb; cases b <;> first | rfl | exact absurd List.mem_cons_self hb

theorem State.withFreeUsed_only {s : State} {x : Nat} : OnlyIn [.freeUsed] s (s.withFreeUsed x) := by
  intro b hb; cases b <;> first | rfl | exact absurd List.mem_cons_self hb

/-! ## Machine/Ops.lean -/

theorem State.setDisplay_only {s : State} {d : Nat} {r : DisplayRecord} :
    OnlyIn [.ddir] s (State.setDisplay s d r) := by
  unfold State.setDisplay
  repeat' first
    | with_reducible exact OnlyIn.refl
    | decide
    | with_reducible intro _
    | with_reducible apply OnlyIn.after State.withDdir_only

theorem State.setComp_only {s : State} {d : Nat} {c : Composition} :
    OnlyIn [.cmp] s (State.setComp s d c) := by
  unfold State.setComp
  repeat' first
    | with_reducible exact OnlyIn.refl
    | decide
    | with_reducible intro _
    | with_reducible apply OnlyIn.after State.withCmp_only

theorem State.setLink_only {s : State} {l : Nat} {x : Link} :
    OnlyIn [.clu] s (State.setLink s l x) := by
  unfold State.setLink
  repeat' first
    | with_reducible exact OnlyIn.refl
    | decide
    | with_reducible intro _
    | with_reducible apply OnlyIn.after State.withClu_only

theorem State.setCar_only {s : State} {c : Nat} {x : Car} :
    OnlyIn [.clu] s (State.setCar s c x) := by
  unfold State.setCar
  repeat' first
    | with_reducible exact OnlyIn.refl
    | decide
    | with_reducible intro _
    | with_reducible apply OnlyIn.after State.withClu_only

theorem State.setLantern_only {s : State} {d : Nat} {x : Option Lantern} :
    OnlyIn [.clu] s (State.setLantern s d x) := by
  unfold State.setLantern
  repeat' first
    | with_reducible exact OnlyIn.refl
    | decide
    | with_reducible intro _
    | with_reducible apply OnlyIn.after State.withClu_only

theorem State.setSession_only {s : State} {n : Nat} {x : Session} :
    OnlyIn [.drq] s (State.setSession s n x) := by
  unfold State.setSession
  repeat' first
    | with_reducible exact OnlyIn.refl
    | decide
    | with_reducible intro _
    | with_reducible apply OnlyIn.after State.withDrq_only

theorem State.setEntry_only {s : State} {k : Nat} {x : RouteEntry} :
    OnlyIn [.eru] s (State.setEntry s k x) := by
  unfold State.setEntry
  repeat' first
    | with_reducible exact OnlyIn.refl
    | decide
    | with_reducible intro _
    | with_reducible apply OnlyIn.after State.withEru_only

theorem State.setRoute_only {s : State} {r : Nat} {x : Route} :
    OnlyIn [.eru] s (State.setRoute s r x) := by
  unfold State.setRoute
  repeat' first
    | with_reducible exact OnlyIn.refl
    | decide
    | with_reducible intro _
    | with_reducible apply OnlyIn.after State.withEru_only

theorem State.setZone_only {s : State} {z : Nat} {x : Zone} :
    OnlyIn [.ovr] s (State.setZone s z x) := by
  unfold State.setZone
  repeat' first
    | with_reducible exact OnlyIn.refl
    | decide
    | with_reducible intro _
    | with_reducible apply OnlyIn.after State.withOvr_only

theorem State.setLine_only {s : State} {k : Nat} {x : FireLine} :
    OnlyIn [.ovr] s (State.setLine s k x) := by
  unfold State.setLine
  repeat' first
    | with_reducible exact OnlyIn.refl
    | decide
    | with_reducible intro _
    | with_reducible apply OnlyIn.after State.withOvr_only

theorem State.setSlot_only {s : State} {i : Nat} {x : Slot} :
    OnlyIn [.cst] s (State.setSlot s i x) := by
  unfold State.setSlot
  repeat' first
    | with_reducible exact OnlyIn.refl
    | decide
    | with_reducible intro _
    | with_reducible apply OnlyIn.after State.withCst_only

theorem State.setString_only {s : State} {k : Nat} {x : PanelString} :
    OnlyIn [.stc] s (State.setString s k x) := by
  unfold State.setString
  repeat' first
    | with_reducible exact OnlyIn.refl
    | decide
    | with_reducible intro _
    | with_reducible apply OnlyIn.after State.withStc_only

theorem State.setPanel_only {s : State} {p : Nat} {x : Panel} :
    OnlyIn [.stc] s (State.setPanel s p x) := by
  unfold State.setPanel
  repeat' first
    | with_reducible exact OnlyIn.refl
    | decide
    | with_reducible intro _
    | with_reducible apply OnlyIn.after State.withStc_only

theorem State.setChannel_only {s : State} {k : Nat} {x : Channel} :
    OnlyIn [.cdt] s (State.setChannel s k x) := by
  unfold State.setChannel
  repeat' first
    | with_reducible exact OnlyIn.refl
    | decide
    | with_reducible intro _
    | with_reducible apply OnlyIn.after State.withCdt_only

theorem markDirty_only {r : MirrorRecord} {s : State} : OnlyIn [.mir] s (markDirty r s) := by
  unfold markDirty
  repeat' first
    | with_reducible exact OnlyIn.refl
    | decide
    | with_reducible intro _
    | with_reducible apply OnlyIn.after State.withMir_only
    | dsimp only
    | split

theorem markAllDirty_only {s : State} : OnlyIn [.mir] s (markAllDirty s) := by
  unfold markAllDirty
  repeat' first
    | with_reducible exact OnlyIn.refl
    | decide
    | with_reducible intro _
    | with_reducible apply OnlyIn.after State.withMir_only

theorem markCars_only {s : State} : OnlyIn [.mir] s (markCars s) := by
  unfold markCars
  exact State.withMir_only

theorem emptyDirty_only {s : State} : OnlyIn [.mir] s (emptyDirty s) := by
  unfold emptyDirty
  exact State.withMir_only

theorem setCause_only {b : CauseBit} {s : State} : OnlyIn [.cause] s (setCause b s) := by
  unfold setCause
  repeat' first
    | with_reducible exact OnlyIn.refl
    | decide
    | with_reducible intro _
    | with_reducible apply OnlyIn.after State.withCause_only

theorem askRecompose_only {why : Ask} {d : Nat} {s : State} :
    OnlyIn [.cmp] s (askRecompose why d s) := by
  unfold askRecompose
  repeat' first
    | with_reducible exact OnlyIn.refl
    | decide
    | with_reducible intro _
    | with_reducible apply OnlyIn.after State.setComp_only
    | dsimp only
    | split

theorem dropComposition_only {d : Nat} {s : State} : OnlyIn [.cmp] s (dropComposition d s) := by
  unfold dropComposition
  repeat' first
    | with_reducible exact OnlyIn.refl
    | decide
    | with_reducible intro _
    | with_reducible apply OnlyIn.after State.setComp_only

theorem askWhere_only {why : Ask} {p : DisplayRecord → Bool} {s : State} :
    OnlyIn [.cmp] s (askWhere why p s) := by
  unfold askWhere
  repeat' first
    | with_reducible exact OnlyIn.refl
    | decide
    | with_reducible intro _
    | with_reducible apply OnlyIn.after askRecompose_only
    | with_reducible apply OnlyIn.each

theorem askWaiting_only {why : Ask} {p : Composition → Bool} {s : State} :
    OnlyIn [.cmp] s (askWaiting why p s) := by
  unfold askWaiting
  repeat' first
    | with_reducible exact OnlyIn.refl
    | decide
    | with_reducible intro _
    | with_reducible apply OnlyIn.after askRecompose_only
    | with_reducible apply OnlyIn.each

/-! ## Machine/Routes.lean -/

theorem countRefusal_only {r : Nat} {s : State} : OnlyIn offerBlocks s (countRefusal r s) := by
  unfold countRefusal
  repeat' first
    | with_reducible exact OnlyIn.refl
    | decide
    | with_reducible intro _
    | with_reducible apply OnlyIn.after State.setRoute_only
    | with_reducible apply OnlyIn.after markDirty_only
    | with_reducible apply OnlyIn.after setCause_only

theorem acceptEvent_only {r : Nat} {e : Event} {s : State} :
    OnlyIn [.eru] s (acceptEvent r e s) := by
  unfold acceptEvent
  repeat' first
    | with_reducible exact OnlyIn.refl
    | decide
    | with_reducible intro _
    | with_reducible apply OnlyIn.after State.setRoute_only

theorem offerVia_only {k : Nat} {e : Event} {s : State} :
    OnlyIn offerBlocks s (offerVia k e s).1 := by
  unfold offerVia
  repeat' first
    | with_reducible exact OnlyIn.refl
    | decide
    | with_reducible intro _
    | with_reducible apply OnlyIn.after State.setEntry_only
    | with_reducible apply OnlyIn.after acceptEvent_only
    | with_reducible apply OnlyIn.after countRefusal_only
    | dsimp only
    | split

theorem offerTo_only {r : Option Nat} {e : Event} {s : State} :
    OnlyIn offerBlocks s (offerTo r e s) := by
  unfold offerTo
  repeat' first
    | with_reducible exact OnlyIn.refl
    | decide
    | with_reducible intro _
    | with_reducible apply OnlyIn.after acceptEvent_only
    | with_reducible apply OnlyIn.after countRefusal_only
    | dsimp only
    | split

theorem offerClass_only {kind : EventKind} {source : Nat} {payload : List Byte} {s : State} :
    OnlyIn offerBlocks s (offerClass kind source payload s) := by
  unfold offerClass
  repeat' first
    | with_reducible exact OnlyIn.refl
    | decide
    | with_reducible intro _
    | with_reducible apply OnlyIn.after offerVia_only

/-! ## Machine/Content.lean -/

theorem unlistSlot_only {i : Nat} {s : State} : OnlyIn [.cst] s (unlistSlot i s) := by
  unfold unlistSlot
  repeat' first
    | with_reducible exact OnlyIn.refl
    | decide
    | with_reducible intro _
    | with_reducible apply OnlyIn.after State.withCst_only

theorem toFront_only {i : Nat} {s : State} : OnlyIn [.cst] s (toFront i s) := by
  unfold toFront
  repeat' first
    | with_reducible exact OnlyIn.refl
    | decide
    | with_reducible intro _
    | with_reducible apply OnlyIn.after State.withCst_only

theorem State.setQueue_only {s : State} {q : List FillEntry} :
    OnlyIn [.cst] s (State.setQueue s q) := by
  unfold State.setQueue
  repeat' first
    | with_reducible exact OnlyIn.refl
    | decide
    | with_reducible intro _
    | with_reducible apply OnlyIn.after State.withCst_only

theorem decidePin_only {i item : Nat} {s : State} :
    OnlyIn (.cst :: offerBlocks) s (decidePin i item s) := by
  unfold decidePin
  repeat' first
    | with_reducible exact OnlyIn.refl
    | decide
    | with_reducible intro _
    | with_reducible apply OnlyIn.after State.setSlot_only
    | with_reducible apply OnlyIn.after offerClass_only
    | dsimp only
    | split

theorem unpinUncovered_only {s : State} : OnlyIn [.cst] s (unpinUncovered s) := by
  unfold unpinUncovered
  repeat' first
    | with_reducible exact OnlyIn.refl
    | decide
    | with_reducible intro _
    | with_reducible apply OnlyIn.after State.withCst_only

theorem pinCovered_only {s : State} : OnlyIn (.cst :: offerBlocks) s (pinCovered s) := by
  unfold pinCovered
  repeat' first
    | with_reducible exact OnlyIn.refl
    | decide
    | with_reducible intro _
    | with_reducible apply OnlyIn.after decidePin_only
    | with_reducible apply OnlyIn.each
    | dsimp only
    | split

theorem changeWindows_only {ws : Vector LockWindow 4} {s : State} :
    OnlyIn (.cst :: offerBlocks) s (changeWindows ws s) := by
  unfold changeWindows
  repeat' first
    | with_reducible exact OnlyIn.refl
    | decide
    | with_reducible intro _
    | with_reducible apply OnlyIn.after State.withCst_only
    | with_reducible apply OnlyIn.after pinCovered_only
    | with_reducible apply OnlyIn.after unpinUncovered_only
    | dsimp only
    | split

theorem beginFill_only {item : Nat} {preFill : Bool} {i : Nat} {s : State} :
    OnlyIn [.cst] s (beginFill item preFill i s) := by
  unfold beginFill
  repeat' first
    | with_reducible exact OnlyIn.refl
    | decide
    | with_reducible intro _
    | with_reducible apply OnlyIn.after State.setQueue_only
    | with_reducible apply OnlyIn.after State.setSlot_only
    | with_reducible apply OnlyIn.after unlistSlot_only

theorem countMiss_only {s : State} : OnlyIn [.mir, .cst] s (countMiss s) := by
  unfold countMiss
  repeat' first
    | with_reducible exact OnlyIn.refl
    | decide
    | with_reducible intro _
    | with_reducible apply OnlyIn.after State.withCst_only
    | with_reducible apply OnlyIn.after markDirty_only

theorem missItem_only {item : Nat} {preFill : Bool} {s : State} :
    OnlyIn [.cst] s (missItem item preFill s).1 := by
  unfold missItem
  repeat' first
    | with_reducible exact OnlyIn.refl
    | decide
    | with_reducible intro _
    | with_reducible apply OnlyIn.after beginFill_only
    | dsimp only
    | split

theorem lookupItem_only {item : Nat} {preFill : Bool} {s : State} :
    OnlyIn [.mir, .cst] s (lookupItem item preFill s).1 := by
  unfold lookupItem
  repeat' first
    | with_reducible exact OnlyIn.refl
    | decide
    | with_reducible intro _
    | with_reducible apply OnlyIn.after countMiss_only
    | with_reducible apply OnlyIn.after missItem_only
    | with_reducible apply OnlyIn.after toFront_only
    | dsimp only
    | split

theorem recomposeNaming_only {why : Ask} {item : Nat} {s : State} :
    OnlyIn [.cmp] s (recomposeNaming why item s) := by
  unfold recomposeNaming
  repeat' first
    | with_reducible exact OnlyIn.refl
    | decide
    | with_reducible intro _
    | with_reducible apply OnlyIn.after askWaiting_only

theorem reportCompletion_only {item : Nat} {s : State} :
    OnlyIn [.cmp] s (reportCompletion item s) := by
  unfold reportCompletion
  repeat' first
    | with_reducible exact OnlyIn.refl
    | decide
    | with_reducible intro _
    | with_reducible apply OnlyIn.after askWaiting_only

theorem reportFault_only {item : Nat} {s : State} : OnlyIn [.cmp] s (reportFault item s) := by
  unfold reportFault
  repeat' first
    | with_reducible exact OnlyIn.refl
    | decide
    | with_reducible intro _
    | with_reducible apply OnlyIn.after State.withCmp_only
    | with_reducible apply OnlyIn.after askWaiting_only

theorem reportRelease_only {item : Nat} {s : State} : OnlyIn [.cmp] s (reportRelease item s) := by
  unfold reportRelease
  repeat' first
    | with_reducible exact OnlyIn.refl
    | decide
    | with_reducible intro _
    | with_reducible apply OnlyIn.after askWaiting_only

theorem dropEntry_only {e : FillEntry} {s : State} : OnlyIn [.cst] s (dropEntry e s) := by
  unfold dropEntry
  repeat' first
    | with_reducible exact OnlyIn.refl
    | decide
    | with_reducible intro _
    | with_reducible apply OnlyIn.after State.setQueue_only

theorem startHead_only {s : State} : OnlyIn [.cst] s (startHead s) := by
  unfold startHead
  repeat' first
    | with_reducible exact OnlyIn.refl
    | decide
    | with_reducible intro _
    | with_reducible apply OnlyIn.after State.setQueue_only
    | dsimp only
    | split

theorem queueRefill_only {i item : Nat} {s : State} : OnlyIn [.cst] s (queueRefill i item s) := by
  unfold queueRefill
  repeat' first
    | with_reducible exact OnlyIn.refl
    | decide
    | with_reducible intro _
    | with_reducible apply OnlyIn.after State.setQueue_only

theorem queueWanted_only {s : State} : OnlyIn [.cst] s (queueWanted s) := by
  unfold queueWanted
  repeat' first
    | with_reducible exact OnlyIn.refl
    | decide
    | with_reducible intro _
    | with_reducible apply OnlyIn.after State.setSlot_only
    | with_reducible apply OnlyIn.after queueRefill_only
    | with_reducible apply OnlyIn.each
    | dsimp only
    | split

theorem refetchEntry_only {e : FillEntry} {s : State} : OnlyIn [.cst] s (refetchEntry e s) := by
  unfold refetchEntry
  repeat' first
    | with_reducible exact OnlyIn.refl
    | decide
    | with_reducible intro _
    | with_reducible apply OnlyIn.after State.setQueue_only
    | with_reducible apply OnlyIn.after State.setSlot_only

theorem fillSlot_only {e : FillEntry} {bytes : List Byte} {s : State} :
    OnlyIn (.cst :: offerBlocks) s (fillSlot e bytes s) := by
  unfold fillSlot
  repeat' first
    | with_reducible exact OnlyIn.refl
    | decide
    | with_reducible intro _
    | with_reducible apply OnlyIn.after State.setSlot_only
    | with_reducible apply OnlyIn.after decidePin_only
    | with_reducible apply OnlyIn.after toFront_only
    | dsimp only
    | split

theorem completeFill_only {e : FillEntry} {bytes : List Byte} {s : State} :
    OnlyIn ([.cmp, .cst] ++ offerBlocks) s (completeFill e bytes s) := by
  unfold completeFill
  repeat' first
    | with_reducible exact OnlyIn.refl
    | decide
    | with_reducible intro _
    | with_reducible apply OnlyIn.after State.withCst_only
    | with_reducible apply OnlyIn.after dropEntry_only
    | with_reducible apply OnlyIn.after fillSlot_only
    | with_reducible apply OnlyIn.after markDirty_only
    | with_reducible apply OnlyIn.after queueWanted_only
    | with_reducible apply OnlyIn.after recomposeNaming_only
    | with_reducible apply OnlyIn.after reportCompletion_only
    | with_reducible apply OnlyIn.onlyIf

theorem quarantine_only {item : Nat} {s : State} : OnlyIn [.cmp, .cst] s (quarantine item s) := by
  unfold quarantine
  repeat' first
    | with_reducible exact OnlyIn.refl
    | decide
    | with_reducible intro _
    | with_reducible apply OnlyIn.after State.withCst_only
    | with_reducible apply OnlyIn.after reportRelease_only
    | dsimp only
    | split

theorem offerContentFault_only {item : Nat} {length : Option Nat} {s : State} :
    OnlyIn offerBlocks s (offerContentFault item length s) := by
  unfold offerContentFault
  repeat' first
    | with_reducible exact OnlyIn.refl
    | decide
    | with_reducible intro _
    | with_reducible apply OnlyIn.after offerClass_only
    | with_reducible apply OnlyIn.after setCause_only

theorem faultFill_only {e : FillEntry} {length : Option Nat} {s : State} :
    OnlyIn ([.cmp, .cst] ++ offerBlocks) s (faultFill e length s) := by
  unfold faultFill
  repeat' first
    | with_reducible exact OnlyIn.refl
    | decide
    | with_reducible intro _
    | with_reducible apply OnlyIn.after State.setSlot_only
    | with_reducible apply OnlyIn.after askWaiting_only
    | with_reducible apply OnlyIn.after dropEntry_only
    | with_reducible apply OnlyIn.after offerContentFault_only
    | with_reducible apply OnlyIn.after quarantine_only
    | with_reducible apply OnlyIn.after queueWanted_only
    | with_reducible apply OnlyIn.after reportFault_only
    | dsimp only
    | split

theorem dropQueue_only {s : State} : OnlyIn [.cst] s (dropQueue s) := by
  unfold dropQueue
  repeat' first
    | with_reducible exact OnlyIn.refl
    | decide
    | with_reducible intro _
    | with_reducible apply OnlyIn.after State.setQueue_only
    | with_reducible apply OnlyIn.after State.setSlot_only
    | with_reducible apply OnlyIn.each

theorem purgeSlot_only {i item : Nat} {s : State} : OnlyIn [.cmp, .cst] s (purgeSlot i item s) := by
  unfold purgeSlot
  repeat' first
    | with_reducible exact OnlyIn.refl
    | decide
    | with_reducible intro _
    | with_reducible apply OnlyIn.after State.setSlot_only
    | with_reducible apply OnlyIn.after queueRefill_only
    | with_reducible apply OnlyIn.after recomposeNaming_only
    | with_reducible apply OnlyIn.after unlistSlot_only
    | dsimp only
    | split

theorem purge_only {base mask : BitVec 16} {s : State} :
    OnlyIn [.cmp, .cst] s (purge base mask s) := by
  unfold purge
  repeat' first
    | with_reducible exact OnlyIn.refl
    | decide
    | with_reducible intro _
    | with_reducible apply OnlyIn.after State.withCst_only
    | with_reducible apply OnlyIn.after purgeSlot_only
    | with_reducible apply OnlyIn.after reportRelease_only
    | with_reducible apply OnlyIn.each
    | dsimp only
    | split

theorem takePurgeCell_only {base mask : BitVec 16} {serial : Word32} {s : State} :
    OnlyIn [.cmp, .cst] s (takePurgeCell base mask serial s) := by
  unfold takePurgeCell
  repeat' first
    | with_reducible exact OnlyIn.refl
    | decide
    | with_reducible intro _
    | with_reducible apply OnlyIn.after State.withCst_only
    | with_reducible apply OnlyIn.after purge_only
    | dsimp only
    | split

/-! ## Machine/Cars.lean -/

theorem changeLantern_only {d : Nat} {new : Lantern} {s : State} :
    OnlyIn [.cmp, .clu] s (changeLantern d new s) := by
  unfold changeLantern
  repeat' first
    | with_reducible exact OnlyIn.refl
    | decide
    | with_reducible intro _
    | with_reducible apply OnlyIn.after State.setLantern_only
    | with_reducible apply OnlyIn.after askRecompose_only
    | dsimp only
    | split

theorem alterLantern_only {f : Lantern → Lantern} {d : Nat} {s : State} :
    OnlyIn [.cmp, .clu] s (alterLantern f d s) := by
  unfold alterLantern
  repeat' first
    | with_reducible exact OnlyIn.refl
    | decide
    | with_reducible intro _
    | with_reducible apply OnlyIn.after changeLantern_only
    | dsimp only
    | split

theorem alterLanterns_only {p : Lantern → Bool} {f : Lantern → Lantern} {s : State} :
    OnlyIn [.cmp, .clu] s (alterLanterns p f s) := by
  unfold alterLanterns
  repeat' first
    | with_reducible exact OnlyIn.refl
    | decide
    | with_reducible intro _
    | with_reducible apply OnlyIn.after alterLantern_only
    | with_reducible apply OnlyIn.each

theorem assignLanterns_only {car floor : Nat} {s : State} :
    OnlyIn [.cmp, .clu] s (assignLanterns car floor s) := by
  unfold assignLanterns
  repeat' first
    | with_reducible exact OnlyIn.refl
    | decide
    | with_reducible intro _
    | with_reducible apply OnlyIn.after alterLanterns_only
    | dsimp only
    | split

theorem lanternsDetached_only {s : State} : OnlyIn [.cmp, .clu] s (lanternsDetached s) := by
  unfold lanternsDetached
  repeat' first
    | with_reducible exact OnlyIn.refl
    | decide
    | with_reducible intro _
    | with_reducible apply OnlyIn.after alterLanterns_only

theorem carChanged_only {car : Nat} {s : State} : OnlyIn [.mir, .cmp] s (carChanged car s) := by
  unfold carChanged
  repeat' first
    | with_reducible exact OnlyIn.refl
    | decide
    | with_reducible intro _
    | with_reducible apply OnlyIn.after askWhere_only
    | with_reducible apply OnlyIn.after markDirty_only

theorem deckArrival_only {car : Nat} {deck : Deck} {floor : Nat} {m : Telegram} {s : State} :
    OnlyIn ([.cmp, .clu] ++ offerBlocks) s (deckArrival car deck floor m s) := by
  unfold deckArrival
  repeat' first
    | with_reducible exact OnlyIn.refl
    | decide
    | with_reducible intro _
    | with_reducible apply OnlyIn.after alterLanterns_only
    | with_reducible apply OnlyIn.after offerClass_only
    | dsimp only
    | split

theorem offerCarBack_only {car : Nat} {m : Telegram} {s : State} :
    OnlyIn offerBlocks s (offerCarBack car m s) := by
  unfold offerCarBack
  repeat' first
    | with_reducible exact OnlyIn.refl
    | decide
    | with_reducible intro _
    | with_reducible apply OnlyIn.after offerClass_only

theorem offerCarMode_only {car : Nat} {old : CarMode} {m : Telegram} {s : State} :
    OnlyIn offerBlocks s (offerCarMode car old m s) := by
  unfold offerCarMode
  repeat' first
    | with_reducible exact OnlyIn.refl
    | decide
    | with_reducible intro _
    | with_reducible apply OnlyIn.after offerClass_only

theorem acceptTelegram_only {car : Nat} {m : Telegram} {s : State} :
    OnlyIn ([.cmp, .clu] ++ offerBlocks) s (acceptTelegram car m s) := by
  unfold acceptTelegram
  repeat' first
    | with_reducible exact OnlyIn.refl
    | decide
    | with_reducible intro _
    | with_reducible apply OnlyIn.after State.setCar_only
    | with_reducible apply OnlyIn.after alterLanterns_only
    | with_reducible apply OnlyIn.after carChanged_only
    | with_reducible apply OnlyIn.after deckArrival_only
    | with_reducible apply OnlyIn.after offerCarBack_only
    | with_reducible apply OnlyIn.after offerCarMode_only
    | with_reducible apply OnlyIn.onlyIf

theorem takeTelegram_only {car : Nat} {m : Telegram} {s : State} :
    OnlyIn ([.cmp, .clu] ++ offerBlocks) s (takeTelegram car m s) := by
  unfold takeTelegram
  repeat' first
    | with_reducible exact OnlyIn.refl
    | decide
    | with_reducible intro _
    | with_reducible apply OnlyIn.after acceptTelegram_only
    | dsimp only
    | split

theorem dropTelegram_only {l : Nat} {s : State} : OnlyIn [.clu] s (dropTelegram l s) := by
  unfold dropTelegram
  repeat' first
    | with_reducible exact OnlyIn.refl
    | decide
    | with_reducible intro _
    | with_reducible apply OnlyIn.after State.setLink_only

theorem checkTelegram_only {l : Nat} {header : Byte} {data : List Byte} {s : State} :
    OnlyIn ([.cmp, .clu] ++ offerBlocks) s (checkTelegram l header data s) := by
  unfold checkTelegram
  repeat' first
    | with_reducible exact OnlyIn.refl
    | decide
    | with_reducible intro _
    | with_reducible apply OnlyIn.after dropTelegram_only
    | with_reducible apply OnlyIn.after takeTelegram_only
    | dsimp only
    | split

theorem setReceiver_only {l : Nat} {r : Receiver} {s : State} :
    OnlyIn [.clu] s (setReceiver l r s) := by
  unfold setReceiver
  repeat' first
    | with_reducible exact OnlyIn.refl
    | decide
    | with_reducible intro _
    | with_reducible apply OnlyIn.after State.setLink_only

theorem receiveChar_only {l : Nat} {c : LineChar} {s : State} :
    OnlyIn ([.cmp, .clu] ++ offerBlocks) s (receiveChar l c s) := by
  unfold receiveChar
  repeat' first
    | with_reducible exact OnlyIn.refl
    | decide
    | with_reducible intro _
    | with_reducible apply OnlyIn.after checkTelegram_only
    | with_reducible apply OnlyIn.after dropTelegram_only
    | with_reducible apply OnlyIn.after setReceiver_only
    | dsimp only
    | split

theorem receiveChars_only {l : Nat} {chars : List LineChar} {s : State} :
    OnlyIn ([.cmp, .clu] ++ offerBlocks) s (receiveChars l chars s) := by
  unfold receiveChars
  repeat' first
    | with_reducible exact OnlyIn.refl
    | decide
    | with_reducible intro _
    | with_reducible apply OnlyIn.after receiveChar_only
    | with_reducible apply OnlyIn.each
    | dsimp only
    | split

theorem huntAll_only {s : State} : OnlyIn [.clu] s (huntAll s) := by
  unfold huntAll
  repeat' first
    | with_reducible exact OnlyIn.refl
    | decide
    | with_reducible intro _
    | with_reducible apply OnlyIn.after State.withClu_only

theorem loseCar_only {car : Nat} {s : State} :
    OnlyIn ([.cmp, .clu] ++ offerBlocks) s (loseCar car s) := by
  unfold loseCar
  repeat' first
    | with_reducible exact OnlyIn.refl
    | decide
    | with_reducible intro _
    | with_reducible apply OnlyIn.after State.setCar_only
    | with_reducible apply OnlyIn.after alterLanterns_only
    | with_reducible apply OnlyIn.after carChanged_only
    | with_reducible apply OnlyIn.after offerClass_only

/-! ## Machine/Requests.lean -/

theorem commitSession_only {n : Nat} {new : Session} {s : State} :
    OnlyIn [.mir, .cmp, .drq] s (commitSession n new s) := by
  unfold commitSession
  repeat' first
    | with_reducible exact OnlyIn.refl
    | decide
    | with_reducible intro _
    | with_reducible apply OnlyIn.after State.setSession_only
    | with_reducible apply OnlyIn.after askRecompose_only
    | with_reducible apply OnlyIn.after markDirty_only
    | with_reducible apply OnlyIn.onlyIf

theorem sessionTouched_only {n : Nat} {s : State} : OnlyIn [.mir, .cmp] s (sessionTouched n s) := by
  unfold sessionTouched
  repeat' first
    | with_reducible exact OnlyIn.refl
    | decide
    | with_reducible intro _
    | with_reducible apply OnlyIn.after askRecompose_only
    | with_reducible apply OnlyIn.after markDirty_only

theorem cancelFor_only {r : DisplayRecord} {n : Nat} {why : Withdrawal} {s : State} :
    OnlyIn offerBlocks s (cancelFor r n why s) := by
  unfold cancelFor
  repeat' first
    | with_reducible exact OnlyIn.refl
    | decide
    | with_reducible intro _
    | with_reducible apply OnlyIn.after offerTo_only

theorem offerCancel_only {n : Nat} {why : Withdrawal} {s : State} :
    OnlyIn offerBlocks s (offerCancel n why s) := cancelFor_only

theorem withdrawFor_only {r : DisplayRecord} {n : Nat} {why : Withdrawal} {s : State} :
    OnlyIn (.drq :: offerBlocks) s (withdrawFor r n why s) := by
  unfold withdrawFor
  repeat' first
    | with_reducible exact OnlyIn.refl
    | decide
    | with_reducible intro _
    | with_reducible apply OnlyIn.after State.setSession_only
    | with_reducible apply OnlyIn.after cancelFor_only

theorem withdraw_only {n : Nat} {why : Withdrawal} {s : State} :
    OnlyIn (.drq :: offerBlocks) s (withdraw n why s) := withdrawFor_only

theorem offerRequest_only {n floor : Nat} {s : State} :
    OnlyIn (.drq :: offerBlocks) s (offerRequest n floor s) := by
  unfold offerRequest
  dsimp only
  split <;> rename_i h <;> have k := congrArg Prod.fst h <;> dsimp only at k <;> rw [← k]
  · apply OnlyIn.after State.setSession_only (by decide)
    apply OnlyIn.after State.withDrq_only (by decide)
    exact offerVia_only.mono (by decide)
  · apply OnlyIn.after State.setSession_only (by decide)
    exact offerVia_only.mono (by decide)

theorem enterKey_only {n : Nat} {s : State} : OnlyIn (.drq :: offerBlocks) s (enterKey n s) := by
  unfold enterKey
  repeat' first
    | with_reducible exact OnlyIn.refl
    | decide
    | with_reducible intro _
    | with_reducible apply OnlyIn.after State.setSession_only
    | with_reducible apply OnlyIn.after offerRequest_only
    | dsimp only
    | split

theorem applyKey_only {n : Nat} {k : Key} {s : State} :
    OnlyIn (.drq :: offerBlocks) s (applyKey n k s) := by
  unfold applyKey
  repeat' first
    | with_reducible exact OnlyIn.refl
    | decide
    | with_reducible intro _
    | with_reducible apply OnlyIn.after State.setSession_only
    | with_reducible apply OnlyIn.after enterKey_only
    | with_reducible apply OnlyIn.after withdraw_only
    | dsimp only
    | split

theorem deliverKeys_only {n : Nat} {keys : List Key} {s : State} :
    OnlyIn sessionBlocks s (deliverKeys n keys s) := by
  unfold deliverKeys
  repeat' first
    | with_reducible exact OnlyIn.refl
    | decide
    | with_reducible intro _
    | with_reducible apply OnlyIn.after applyKey_only
    | with_reducible apply OnlyIn.after sessionTouched_only
    | with_reducible apply OnlyIn.onlyIf
    | with_reducible apply OnlyIn.each
    | dsimp only
    | split

theorem setBlockCause_only {c : BlockCause} {n : Nat} {s : State} :
    OnlyIn sessionBlocks s (setBlockCause c n s) := by
  unfold setBlockCause
  repeat' first
    | with_reducible exact OnlyIn.refl
    | decide
    | with_reducible intro _
    | with_reducible apply OnlyIn.after commitSession_only
    | with_reducible apply OnlyIn.after offerCancel_only
    | dsimp only
    | split

theorem clearBlockCause_only {c : BlockCause} {n : Nat} {s : State} :
    OnlyIn [.mir, .cmp, .drq] s (clearBlockCause c n s) := by
  unfold clearBlockCause
  repeat' first
    | with_reducible exact OnlyIn.refl
    | decide
    | with_reducible intro _
    | with_reducible apply OnlyIn.after commitSession_only

theorem putBlockCause_only {c : BlockCause} {on : Bool} {n : Nat} {s : State} :
    OnlyIn sessionBlocks s (putBlockCause c on n s) := by
  unfold putBlockCause
  repeat' first
    | with_reducible exact OnlyIn.refl
    | decide
    | with_reducible intro _
    | with_reducible apply OnlyIn.after clearBlockCause_only
    | with_reducible apply OnlyIn.after setBlockCause_only
    | dsimp only
    | split

theorem noticeEvac_only {z : Nat} {evacuate : Bool} {s : State} :
    OnlyIn sessionBlocks s (noticeEvac z evacuate s) := by
  unfold noticeEvac
  repeat' first
    | with_reducible exact OnlyIn.refl
    | decide
    | with_reducible intro _
    | with_reducible apply OnlyIn.after putBlockCause_only
    | with_reducible apply OnlyIn.each

theorem reportOffline_only {display : Nat} {offline : Bool} {s : State} :
    OnlyIn sessionBlocks s (reportOffline display offline s) := by
  unfold reportOffline
  repeat' first
    | with_reducible exact OnlyIn.refl
    | decide
    | with_reducible intro _
    | with_reducible apply OnlyIn.after putBlockCause_only
    | with_reducible apply OnlyIn.each
    | dsimp only
    | split

theorem bindSession_only {n d : Nat} {offline : Bool} {s : State} :
    OnlyIn [.mir, .cmp, .drq] s (bindSession n d offline s) := by
  unfold bindSession
  repeat' first
    | with_reducible exact OnlyIn.refl
    | decide
    | with_reducible intro _
    | with_reducible apply OnlyIn.after State.setSession_only
    | with_reducible apply OnlyIn.after sessionTouched_only

theorem unbindSession_only {old : DisplayRecord} {n : Nat} {s : State} :
    OnlyIn sessionBlocks s (unbindSession old n s) := by
  unfold unbindSession
  repeat' first
    | with_reducible exact OnlyIn.refl
    | decide
    | with_reducible intro _
    | with_reducible apply OnlyIn.after State.setSession_only
    | with_reducible apply OnlyIn.after askRecompose_only
    | with_reducible apply OnlyIn.after markDirty_only
    | with_reducible apply OnlyIn.after withdrawFor_only
    | with_reducible apply OnlyIn.onlyIf
    | dsimp only
    | split

theorem rebindChange_only {bs : List Block} {n : Nat} {f : State → State} {s : State}
    (h : ∀ u, OnlyIn bs u (f u)) (sub : [Block.mir, .cmp].all (fun b => decide (b ∈ bs)) = true) :
    OnlyIn bs s (rebindChange n f s) :=
  (h s).onlyIf fun _ => sessionTouched_only.mono sub

theorem sessionZoneChanged_only {n z : Nat} {s : State} :
    OnlyIn sessionBlocks s (sessionZoneChanged n z s) := by
  unfold sessionZoneChanged
  repeat' first
    | with_reducible exact OnlyIn.refl
    | decide
    | with_reducible intro _
    | with_reducible apply OnlyIn.after putBlockCause_only
    | with_reducible apply rebindChange_only

theorem sessionPanelChanged_only {n : Nat} {s : State} :
    OnlyIn [.mir, .cmp, .drq] s (sessionPanelChanged n s) := by
  unfold sessionPanelChanged
  repeat' first
    | with_reducible exact OnlyIn.refl
    | decide
    | with_reducible intro _
    | with_reducible apply OnlyIn.after clearBlockCause_only
    | with_reducible apply rebindChange_only

theorem applyAnswer_only {n : Nat} {a : Answer} {s : State} :
    OnlyIn [.mir, .cmp, .clu, .drq] s (applyAnswer n a s) := by
  unfold applyAnswer
  repeat' first
    | with_reducible exact OnlyIn.refl
    | decide
    | with_reducible intro _
    | with_reducible apply OnlyIn.after assignLanterns_only
    | with_reducible apply OnlyIn.after commitSession_only
    | dsimp only
    | split

theorem offerLate_only {n : Nat} {a : Answer} {s : State} :
    OnlyIn ([.drq, .freeUsed] ++ offerBlocks) s (offerLate n a s) := by
  unfold offerLate
  repeat' first
    | with_reducible exact OnlyIn.refl
    | decide
    | with_reducible intro _
    | with_reducible apply OnlyIn.after State.setSession_only
    | with_reducible apply OnlyIn.after State.withFreeUsed_only
    | with_reducible apply OnlyIn.after offerTo_only
    | dsimp only
    | split

theorem takeAnswer_only {n : Nat} {body : List Byte} {s : State} :
    OnlyIn ([.clu, .freeUsed] ++ sessionBlocks) s (takeAnswer n body s).1 := by
  unfold takeAnswer
  repeat' first
    | with_reducible exact OnlyIn.refl
    | decide
    | with_reducible intro _
    | with_reducible apply OnlyIn.after applyAnswer_only
    | with_reducible apply OnlyIn.after offerLate_only
    | dsimp only
    | split

theorem sessionsDetached_only {s : State} : OnlyIn [.mir, .cmp, .drq] s (sessionsDetached s) := by
  unfold sessionsDetached
  repeat' first
    | with_reducible exact OnlyIn.refl
    | decide
    | with_reducible intro _
    | with_reducible apply OnlyIn.after commitSession_only
    | with_reducible apply OnlyIn.each

/-! ## Machine/Strings.lean -/

theorem alterString_only {k : Nat} {f : PanelString → PanelString} {s : State} :
    OnlyIn [.stc] s (alterString k f s) := by
  unfold alterString
  repeat' first
    | with_reducible exact OnlyIn.refl
    | decide
    | with_reducible intro _
    | with_reducible apply OnlyIn.after State.setString_only

theorem alterPanel_only {p : Nat} {f : Panel → Panel} {s : State} :
    OnlyIn [.stc] s (alterPanel p f s) := by
  unfold alterPanel
  repeat' first
    | with_reducible exact OnlyIn.refl
    | decide
    | with_reducible intro _
    | with_reducible apply OnlyIn.after State.setPanel_only

theorem beginBroadcast_only {k : Nat} {command : Command} {payload : List Byte} {s : State} :
    OnlyIn [.stc] s (beginBroadcast k command payload s) := by
  unfold beginBroadcast
  repeat' first
    | with_reducible exact OnlyIn.refl
    | decide
    | with_reducible intro _
    | with_reducible apply OnlyIn.after alterString_only

theorem enterString_only {k : Nat} {new : StringState} {s : State} :
    OnlyIn (.stc :: offerBlocks) s (enterString k new s) := by
  unfold enterString
  repeat' first
    | with_reducible exact OnlyIn.refl
    | decide
    | with_reducible intro _
    | with_reducible apply OnlyIn.after State.setString_only
    | with_reducible apply OnlyIn.after markDirty_only
    | with_reducible apply OnlyIn.after offerClass_only

theorem markPanel_only {p : Nat} {old : Panel} {s : State} :
    OnlyIn [.mir] s (markPanel p old s) := by
  unfold markPanel
  repeat' first
    | with_reducible exact OnlyIn.refl
    | decide
    | with_reducible intro _
    | with_reducible apply OnlyIn.after markDirty_only
    | with_reducible apply OnlyIn.onlyIf

theorem reportPanel_only {k address : Nat} {offline : Bool} {s : State} :
    OnlyIn sessionBlocks s (reportPanel k address offline s) := by
  unfold reportPanel
  repeat' first
    | with_reducible exact OnlyIn.refl
    | decide
    | with_reducible intro _
    | with_reducible apply OnlyIn.after reportOffline_only
    | dsimp only
    | split

theorem setUnseen_only {k address : Nat} {s : State} :
    OnlyIn stringBlocks s (setUnseen k address s) := by
  unfold setUnseen
  repeat' first
    | with_reducible exact OnlyIn.refl
    | decide
    | with_reducible intro _
    | with_reducible apply OnlyIn.after State.setPanel_only
    | with_reducible apply OnlyIn.after markPanel_only
    | with_reducible apply OnlyIn.after reportPanel_only
    | with_reducible apply OnlyIn.onlyIf

theorem unseeSchedule_only {k : Nat} {s : State} : OnlyIn stringBlocks s (unseeSchedule k s) := by
  unfold unseeSchedule
  repeat' first
    | with_reducible exact OnlyIn.refl
    | decide
    | with_reducible intro _
    | with_reducible apply OnlyIn.after setUnseen_only
    | with_reducible apply OnlyIn.each

theorem powerUp_only {k : Nat} {s : State} : OnlyIn stringBlocks s (powerUp k s) := by
  unfold powerUp
  repeat' first
    | with_reducible exact OnlyIn.refl
    | decide
    | with_reducible intro _
    | with_reducible apply OnlyIn.after alterString_only
    | with_reducible apply OnlyIn.after enterString_only
    | with_reducible apply OnlyIn.after unseeSchedule_only

theorem enterOff_only {k : Nat} {s : State} : OnlyIn stringBlocks s (enterOff k s) := by
  unfold enterOff
  repeat' first
    | with_reducible exact OnlyIn.refl
    | decide
    | with_reducible intro _
    | with_reducible apply OnlyIn.after alterString_only
    | with_reducible apply OnlyIn.after enterString_only
    | with_reducible apply OnlyIn.after powerUp_only
    | with_reducible apply OnlyIn.onlyIf

theorem enterParking_only {k : Nat} {s : State} :
    OnlyIn (.stc :: offerBlocks) s (enterParking k s) := by
  unfold enterParking
  repeat' first
    | with_reducible exact OnlyIn.refl
    | decide
    | with_reducible intro _
    | with_reducible apply OnlyIn.after alterString_only
    | with_reducible apply OnlyIn.after beginBroadcast_only
    | with_reducible apply OnlyIn.after enterString_only

theorem closeSweep_only {k : Nat} {s : State} : OnlyIn [.mir, .stc] s (closeSweep k s) := by
  unfold closeSweep
  repeat' first
    | with_reducible exact OnlyIn.refl
    | decide
    | with_reducible intro _
    | with_reducible apply OnlyIn.after alterString_only
    | with_reducible apply OnlyIn.after markDirty_only

theorem startSweep_only {k : Nat} {s : State} : OnlyIn [.mir, .stc] s (startSweep k s) := by
  unfold startSweep
  repeat' first
    | with_reducible exact OnlyIn.refl
    | decide
    | with_reducible intro _
    | with_reducible apply OnlyIn.after State.setString_only
    | with_reducible apply OnlyIn.after closeSweep_only
    | dsimp only
    | split

theorem endSweep_only {k : Nat} {s : State} : OnlyIn [.mir, .stc] s (endSweep k s) := by
  unfold endSweep
  repeat' first
    | with_reducible exact OnlyIn.refl
    | decide
    | with_reducible intro _
    | with_reducible apply OnlyIn.after closeSweep_only
    | with_reducible apply OnlyIn.after startSweep_only
    | with_reducible apply OnlyIn.onlyIf

theorem completeEnumeration_only {k : Nat} {s : State} :
    OnlyIn (.stc :: offerBlocks) s (completeEnumeration k s) := by
  unfold completeEnumeration
  repeat' first
    | with_reducible exact OnlyIn.refl
    | decide
    | with_reducible intro _
    | with_reducible apply OnlyIn.after alterString_only
    | with_reducible apply OnlyIn.after enterString_only
    | with_reducible apply OnlyIn.after startSweep_only

theorem skipSlots_only {k : Nat} {s : State} : OnlyIn [.stc] s (skipSlots k s) := by
  unfold skipSlots
  repeat' first
    | with_reducible exact OnlyIn.refl
    | decide
    | with_reducible intro _
    | with_reducible apply OnlyIn.after State.setString_only
    | dsimp only
    | split

theorem endIfDone_only {k : Nat} {s : State} : OnlyIn [.mir, .stc] s (endIfDone k s) := by
  unfold endIfDone
  repeat' first
    | with_reducible exact OnlyIn.refl
    | decide
    | with_reducible intro _
    | with_reducible apply OnlyIn.after endSweep_only
    | dsimp only
    | split

theorem settleString_only {k : Nat} {s : State} :
    OnlyIn (.stc :: offerBlocks) s (settleString k s) := by
  unfold settleString
  repeat' first
    | with_reducible exact OnlyIn.refl
    | decide
    | with_reducible intro _
    | with_reducible apply OnlyIn.after completeEnumeration_only
    | with_reducible apply OnlyIn.after endIfDone_only
    | with_reducible apply OnlyIn.after enterParking_only
    | with_reducible apply OnlyIn.after skipSlots_only
    | dsimp only
    | split

theorem raiseRun_only {k : Nat} {s : State} : OnlyIn stringBlocks s (raiseRun k s) := by
  unfold raiseRun
  repeat' first
    | with_reducible exact OnlyIn.refl
    | decide
    | with_reducible intro _
    | with_reducible apply OnlyIn.after powerUp_only
    | with_reducible apply OnlyIn.onlyIf

theorem lowerRun_only {k : Nat} {s : State} : OnlyIn stringBlocks s (lowerRun k s) := by
  unfold lowerRun
  repeat' first
    | with_reducible exact OnlyIn.refl
    | decide
    | with_reducible intro _
    | with_reducible apply OnlyIn.after State.setString_only
    | with_reducible apply OnlyIn.after enterOff_only
    | with_reducible apply OnlyIn.after enterParking_only
    | with_reducible apply OnlyIn.after enterString_only
    | with_reducible apply OnlyIn.after settleString_only
    | dsimp only
    | split

theorem runChanged_only {k : Nat} {was : Bool} {s : State} :
    OnlyIn stringBlocks s (runChanged k was s) := by
  unfold runChanged
  repeat' first
    | with_reducible exact OnlyIn.refl
    | decide
    | with_reducible intro _
    | with_reducible apply OnlyIn.after lowerRun_only
    | with_reducible apply OnlyIn.after raiseRun_only
    | dsimp only
    | split

theorem enterSchedule_only {k a : Nat} {s : State} :
    OnlyIn stringBlocks s (enterSchedule k a s) := by
  unfold enterSchedule
  repeat' first
    | with_reducible exact OnlyIn.refl
    | decide
    | with_reducible intro _
    | with_reducible apply OnlyIn.after alterString_only
    | with_reducible apply OnlyIn.after setUnseen_only

theorem leaveSchedule_only {k a : Nat} {s : State} : OnlyIn [.stc] s (leaveSchedule k a s) := by
  unfold leaveSchedule
  repeat' first
    | with_reducible exact OnlyIn.refl
    | decide
    | with_reducible intro _
    | with_reducible apply OnlyIn.after alterString_only

theorem markUrgent_only {d : Nat} {s : State} : OnlyIn [.stc] s (markUrgent d s) := by
  unfold markUrgent
  repeat' first
    | with_reducible exact OnlyIn.refl
    | decide
    | with_reducible intro _
    | with_reducible apply OnlyIn.after alterString_only
    | with_reducible apply OnlyIn.onlyIf

theorem owSync_only {k : Nat} {s : State} : OnlyIn [.stc] s (owSync k s) := by
  unfold owSync
  repeat' first
    | with_reducible exact OnlyIn.refl
    | decide
    | with_reducible intro _
    | with_reducible apply OnlyIn.after alterString_only
    | with_reducible apply OnlyIn.onlyIf

theorem syncAll_only {s : State} : OnlyIn [.stc] s (syncAll s) := by
  unfold syncAll
  repeat' first
    | with_reducible exact OnlyIn.refl
    | decide
    | with_reducible intro _
    | with_reducible apply OnlyIn.after owSync_only
    | with_reducible apply OnlyIn.each

theorem beginVisit_only {k a d : Nat} {o : Origin} {command : Command} {s : State} :
    OnlyIn [.stc] s (beginVisit k a d o command s) := by
  unfold beginVisit
  repeat' first
    | with_reducible exact OnlyIn.refl
    | decide
    | with_reducible intro _
    | with_reducible apply OnlyIn.after alterString_only

theorem visitWith_only {command : Command} {k : Nat} {s : State} :
    OnlyIn [.cmp, .stc] s (visitWith command k s) := by
  unfold visitWith
  repeat' first
    | with_reducible exact OnlyIn.refl
    | decide
    | with_reducible intro _
    | with_reducible apply OnlyIn.after askRecompose_only
    | with_reducible apply OnlyIn.after beginVisit_only
    | with_reducible apply OnlyIn.onlyIf
    | dsimp only
    | split

theorem reportLight_only {d level : Nat} {s : State} : OnlyIn [.cmp] s (reportLight d level s) := by
  unfold reportLight
  repeat' first
    | with_reducible exact OnlyIn.refl
    | decide
    | with_reducible intro _
    | with_reducible apply OnlyIn.after askRecompose_only
    | with_reducible apply OnlyIn.onlyIf

theorem panelBack_only {k a light : Nat} {s : State} :
    OnlyIn stringBlocks s (panelBack k a light s) := by
  unfold panelBack
  repeat' first
    | with_reducible exact OnlyIn.refl
    | decide
    | with_reducible intro _
    | with_reducible apply OnlyIn.after offerClass_only
    | with_reducible apply OnlyIn.after owSync_only
    | with_reducible apply OnlyIn.after reportPanel_only

theorem takeKeys_only {k a d : Nat} {r : Reply} {s : State} :
    OnlyIn stringBlocks s (takeKeys k a d r s) := by
  unfold takeKeys
  repeat' first
    | with_reducible exact OnlyIn.refl
    | decide
    | with_reducible intro _
    | with_reducible apply OnlyIn.after alterPanel_only
    | with_reducible apply OnlyIn.after deliverKeys_only
    | dsimp only
    | split

theorem goodReply_only {k d : Nat} {v : Visit} {r : Reply} {s : State} :
    OnlyIn stringBlocks s (goodReply k d v r s) := by
  unfold goodReply
  repeat' first
    | with_reducible exact OnlyIn.refl
    | decide
    | with_reducible intro _
    | with_reducible apply OnlyIn.after alterPanel_only
    | with_reducible apply OnlyIn.after markPanel_only
    | with_reducible apply OnlyIn.after owSync_only
    | with_reducible apply OnlyIn.after panelBack_only
    | with_reducible apply OnlyIn.after reportLight_only
    | with_reducible apply OnlyIn.after takeKeys_only
    | with_reducible apply OnlyIn.onlyIf

theorem panelLost_only {k a : Nat} {before : Health} {s : State} :
    OnlyIn stringBlocks s (panelLost k a before s) := by
  unfold panelLost
  repeat' first
    | with_reducible exact OnlyIn.refl
    | decide
    | with_reducible intro _
    | with_reducible apply OnlyIn.after alterString_only
    | with_reducible apply OnlyIn.after offerClass_only
    | with_reducible apply OnlyIn.after reportPanel_only

theorem panelFails_only {k a : Nat} {s : State} : OnlyIn stringBlocks s (panelFails k a s) := by
  unfold panelFails
  repeat' first
    | with_reducible exact OnlyIn.refl
    | decide
    | with_reducible intro _
    | with_reducible apply OnlyIn.after alterPanel_only
    | with_reducible apply OnlyIn.after markPanel_only
    | with_reducible apply OnlyIn.after panelLost_only
    | with_reducible apply OnlyIn.onlyIf

theorem refuseType_only {d : Nat} {s : State} : OnlyIn displayBlocks s (refuseType d s) := by
  unfold refuseType
  repeat' first
    | with_reducible exact OnlyIn.refl
    | decide
    | with_reducible intro _
    | with_reducible apply OnlyIn.after State.setDisplay_only
    | with_reducible apply OnlyIn.after State.setLantern_only
    | with_reducible apply OnlyIn.after State.withMir_only
    | with_reducible apply OnlyIn.after dropComposition_only
    | with_reducible apply OnlyIn.after leaveSchedule_only
    | with_reducible apply OnlyIn.after markDirty_only
    | with_reducible apply OnlyIn.after unbindSession_only
    | dsimp only
    | split

theorem offerPanelType_only {k a d type : Nat} {s : State} :
    OnlyIn offerBlocks s (offerPanelType k a d type s) := by
  unfold offerPanelType
  repeat' first
    | with_reducible exact OnlyIn.refl
    | decide
    | with_reducible intro _
    | with_reducible apply OnlyIn.after offerClass_only

theorem takeReply_only {k d : Nat} {v : Visit} {r : Reply} {s : State} :
    OnlyIn displayBlocks s (takeReply k d v r s) := by
  unfold takeReply
  repeat' first
    | with_reducible exact OnlyIn.refl
    | decide
    | with_reducible intro _
    | with_reducible apply OnlyIn.after goodReply_only
    | with_reducible apply OnlyIn.after offerPanelType_only
    | with_reducible apply OnlyIn.after refuseType_only
    | dsimp only
    | split

theorem takeHealth_only {k : Nat} {v : Visit} {o : VisitOutcome} {s : State} :
    OnlyIn displayBlocks s (takeHealth k v o s) := by
  unfold takeHealth
  repeat' first
    | with_reducible exact OnlyIn.refl
    | decide
    | with_reducible intro _
    | with_reducible apply OnlyIn.after panelFails_only
    | with_reducible apply OnlyIn.after takeReply_only
    | dsimp only
    | split

theorem takeOutcome_only {k : Nat} {v : Visit} {o : VisitOutcome} {s : State} :
    OnlyIn displayBlocks s (takeOutcome k v o s) := by
  unfold takeOutcome
  repeat' first
    | with_reducible exact OnlyIn.refl
    | decide
    | with_reducible intro _
    | with_reducible apply OnlyIn.after alterString_only
    | with_reducible apply OnlyIn.after settleString_only
    | with_reducible apply OnlyIn.after takeHealth_only
    | with_reducible apply OnlyIn.onlyIf
    | dsimp only
    | split

theorem receiveReply_only {k : Nat} {c : LineChar} {s : State} :
    OnlyIn displayBlocks s (receiveReply k c s) := by
  unfold receiveReply
  repeat' first
    | with_reducible exact OnlyIn.refl
    | decide
    | with_reducible intro _
    | with_reducible apply OnlyIn.after alterString_only
    | with_reducible apply OnlyIn.after takeOutcome_only
    | dsimp only
    | split

theorem supplyFails_only {k : Nat} {s : State} : OnlyIn stringBlocks s (supplyFails k s) := by
  unfold supplyFails
  repeat' first
    | with_reducible exact OnlyIn.refl
    | decide
    | with_reducible intro _
    | with_reducible apply OnlyIn.after State.setString_only
    | with_reducible apply OnlyIn.after alterString_only
    | with_reducible apply OnlyIn.after enterString_only
    | with_reducible apply OnlyIn.after offerClass_only
    | with_reducible apply OnlyIn.after setCause_only
    | with_reducible apply OnlyIn.after unseeSchedule_only

theorem telegramEnds_only {k : Nat} {s : State} :
    OnlyIn (.stc :: offerBlocks) s (telegramEnds k s) := by
  unfold telegramEnds
  repeat' first
    | with_reducible exact OnlyIn.refl
    | decide
    | with_reducible intro _
    | with_reducible apply OnlyIn.after State.setString_only
    | with_reducible apply OnlyIn.after settleString_only
    | dsimp only
    | split

theorem replyExpires_only {k : Nat} {s : State} : OnlyIn displayBlocks s (replyExpires k s) := by
  unfold replyExpires
  repeat' first
    | with_reducible exact OnlyIn.refl
    | decide
    | with_reducible intro _
    | with_reducible apply OnlyIn.after takeOutcome_only
    | dsimp only
    | split

/-! ## Machine/Overrides.lean -/

theorem markZone_only {z : Nat} {s : State} : OnlyIn [.stc] s (markZone z s) := by
  unfold markZone
  repeat' first
    | with_reducible exact OnlyIn.refl
    | decide
    | with_reducible intro _
    | with_reducible apply OnlyIn.after markUrgent_only
    | with_reducible apply OnlyIn.each
    | dsimp only
    | split

theorem recomposeZone_only {z : Nat} {s : State} : OnlyIn [.cmp] s (recomposeZone z s) := by
  unfold recomposeZone
  repeat' first
    | with_reducible exact OnlyIn.refl
    | decide
    | with_reducible intro _
    | with_reducible apply OnlyIn.after askWhere_only

theorem zoneNotices_only {z : Nat} {old new : Priority} {s : State} :
    OnlyIn stringBlocks s (zoneNotices z old new s) := by
  unfold zoneNotices
  repeat' first
    | with_reducible exact OnlyIn.refl
    | decide
    | with_reducible intro _
    | with_reducible apply OnlyIn.after markZone_only
    | with_reducible apply OnlyIn.after noticeEvac_only
    | with_reducible apply OnlyIn.after recomposeZone_only
    | with_reducible apply OnlyIn.onlyIf

theorem formZone_only {z : Nat} {s : State} : OnlyIn zoneBlocks s (formZone z s) := by
  unfold formZone
  repeat' first
    | with_reducible exact OnlyIn.refl
    | decide
    | with_reducible intro _
    | with_reducible apply OnlyIn.after State.setZone_only
    | with_reducible apply OnlyIn.after zoneNotices_only
    | dsimp only
    | split

theorem formSources_only {z : Nat} {s : State} : OnlyIn zoneBlocks s (formSources z s) := by
  unfold formSources
  repeat' first
    | with_reducible exact OnlyIn.refl
    | decide
    | with_reducible intro _
    | with_reducible apply OnlyIn.after State.setZone_only
    | with_reducible apply OnlyIn.after formZone_only

theorem formAllZones_only {s : State} : OnlyIn zoneBlocks s (formAllZones s) := by
  unfold formAllZones
  repeat' first
    | with_reducible exact OnlyIn.refl
    | decide
    | with_reducible intro _
    | with_reducible apply OnlyIn.after formSources_only
    | with_reducible apply OnlyIn.each

theorem takeOverride_only {n : Nat} {body : List Byte} {s : State} :
    OnlyIn zoneBlocks s (takeOverride n body s).1 := by
  unfold takeOverride
  repeat' first
    | with_reducible exact OnlyIn.refl
    | decide
    | with_reducible intro _
    | with_reducible apply OnlyIn.after State.setZone_only
    | with_reducible apply OnlyIn.after formZone_only
    | with_reducible apply OnlyIn.onlyIf
    | dsimp only
    | split

theorem alterLine_only {k : Nat} {f : FireLine → FireLine} {s : State} :
    OnlyIn [.ovr] s (alterLine k f s) := by
  unfold alterLine
  repeat' first
    | with_reducible exact OnlyIn.refl
    | decide
    | with_reducible intro _
    | with_reducible apply OnlyIn.after State.setLine_only

theorem loadFireMap_only {m : Vector (Word32 × Nat) 4} {s : State} :
    OnlyIn zoneBlocks s (loadFireMap m s) := by
  unfold loadFireMap
  repeat' first
    | with_reducible exact OnlyIn.refl
    | decide
    | with_reducible intro _
    | with_reducible apply OnlyIn.after alterLine_only
    | with_reducible apply OnlyIn.after formAllZones_only
    | with_reducible apply OnlyIn.each

theorem beginPreFill_only {s : State} : OnlyIn [.mir, .ovr, .cst] s (beginPreFill s) := by
  unfold beginPreFill
  repeat' first
    | with_reducible exact OnlyIn.refl
    | decide
    | with_reducible intro _
    | with_reducible apply OnlyIn.after alterLine_only
    | with_reducible apply OnlyIn.after lookupItem_only
    | with_reducible apply OnlyIn.each

theorem preFillFaults_only {item : Nat} {s : State} : OnlyIn [.ovr] s (preFillFaults item s) := by
  unfold preFillFaults
  repeat' first
    | with_reducible exact OnlyIn.refl
    | decide
    | with_reducible intro _
    | with_reducible apply OnlyIn.after alterLine_only
    | with_reducible apply OnlyIn.each

theorem writeFlags_only {s : State} : OnlyIn [.mir, .ovr] s (writeFlags s) := by
  unfold writeFlags
  repeat' first
    | with_reducible exact OnlyIn.refl
    | decide
    | with_reducible intro _
    | with_reducible apply OnlyIn.after State.withOvr_only
    | with_reducible apply OnlyIn.after markDirty_only

theorem endPreFill_only {s : State} : OnlyIn zoneBlocks s (endPreFill s) := by
  unfold endPreFill
  repeat' first
    | with_reducible exact OnlyIn.refl
    | decide
    | with_reducible intro _
    | with_reducible apply OnlyIn.after formZone_only
    | with_reducible apply OnlyIn.after writeFlags_only
    | with_reducible apply OnlyIn.onlyIf
    | with_reducible apply OnlyIn.each

theorem resolveEntry_only {m : Vector (Word32 × Nat) 4} {old new : Vector LockWindow 4} {k : Nat} {s : State} :
    OnlyIn [.mir, .ovr, .cst] s (resolveEntry m old new k s) := by
  unfold resolveEntry
  repeat' first
    | with_reducible exact OnlyIn.refl
    | decide
    | with_reducible intro _
    | with_reducible apply OnlyIn.after State.setLine_only
    | with_reducible apply OnlyIn.after lookupItem_only
    | with_reducible apply OnlyIn.onlyIf
    | dsimp only
    | split

theorem changeFireMap_only {m : Vector (Word32 × Nat) 4} {old new : Vector LockWindow 4} {s : State} :
    OnlyIn (.cst :: zoneBlocks) s (changeFireMap m old new s) := by
  unfold changeFireMap
  repeat' first
    | with_reducible exact OnlyIn.refl
    | decide
    | with_reducible intro _
    | with_reducible apply OnlyIn.after formAllZones_only
    | with_reducible apply OnlyIn.after resolveEntry_only
    | with_reducible apply OnlyIn.after writeFlags_only
    | with_reducible apply OnlyIn.onlyIf
    | with_reducible apply OnlyIn.each

theorem overridesDetached_only {s : State} : OnlyIn zoneBlocks s (overridesDetached s) := by
  unfold overridesDetached
  repeat' first
    | with_reducible exact OnlyIn.refl
    | decide
    | with_reducible intro _
    | with_reducible apply OnlyIn.after State.setZone_only
    | with_reducible apply OnlyIn.after formZone_only
    | with_reducible apply OnlyIn.onlyIf
    | with_reducible apply OnlyIn.each

theorem overridesAttached_only {s : State} : OnlyIn [.cmp, .stc] s (overridesAttached s) := by
  unfold overridesAttached
  repeat' first
    | with_reducible exact OnlyIn.refl
    | decide
    | with_reducible intro _
    | with_reducible apply OnlyIn.after markZone_only
    | with_reducible apply OnlyIn.after recomposeZone_only
    | with_reducible apply OnlyIn.each
    | dsimp only
    | split

theorem changeLine_only {k : Nat} {s : State} : OnlyIn zoneBlocks s (changeLine k s) := by
  unfold changeLine
  repeat' first
    | with_reducible exact OnlyIn.refl
    | decide
    | with_reducible intro _
    | with_reducible apply OnlyIn.after State.setLine_only
    | with_reducible apply OnlyIn.after formSources_only
    | with_reducible apply OnlyIn.after offerClass_only
    | with_reducible apply OnlyIn.each
    | dsimp only
    | split

/-! ## Machine/Cadence.lean -/

theorem setPhase_only {k : Nat} {phase : Bool} {s : State} :
    OnlyIn [.stc, .cdt] s (setPhase k phase s) := by
  unfold setPhase
  repeat' first
    | with_reducible exact OnlyIn.refl
    | decide
    | with_reducible intro _
    | with_reducible apply OnlyIn.after State.setChannel_only
    | with_reducible apply OnlyIn.after syncAll_only
    | with_reducible apply OnlyIn.onlyIf

theorem tickChannel_only {k : Nat} {s : State} : OnlyIn [.stc, .cdt] s (tickChannel k s) := by
  unfold tickChannel
  repeat' first
    | with_reducible exact OnlyIn.refl
    | decide
    | with_reducible intro _
    | with_reducible apply OnlyIn.after State.setChannel_only
    | with_reducible apply OnlyIn.after setPhase_only
    | dsimp only
    | split

theorem putPair_only {j : Nat} {lower upper : Channel} {s : State} :
    OnlyIn [.cdt] s (putPair j lower upper s) := by
  unfold putPair
  repeat' first
    | with_reducible exact OnlyIn.refl
    | decide
    | with_reducible intro _
    | with_reducible apply OnlyIn.after State.setChannel_only

theorem restartPair_only {j : Nat} {lower upper : ChannelSettings} {s : State} :
    OnlyIn [.cdt] s (restartPair j lower upper s) := by
  unfold restartPair
  repeat' first
    | with_reducible exact OnlyIn.refl
    | decide
    | with_reducible intro _
    | with_reducible apply OnlyIn.after putPair_only

theorem resetPair_only {j : Nat} {lower upper : ChannelSettings} {s : State} :
    OnlyIn [.cdt] s (resetPair j lower upper s) := by
  unfold resetPair
  repeat' first
    | with_reducible exact OnlyIn.refl
    | decide
    | with_reducible intro _
    | with_reducible apply OnlyIn.after putPair_only

theorem changePair_only {set : Vector ChannelSettings 16} {j : Nat} {s : State} :
    OnlyIn [.stc, .cdt] s (changePair set j s) := by
  unfold changePair
  repeat' first
    | with_reducible exact OnlyIn.refl
    | decide
    | with_reducible intro _
    | with_reducible apply OnlyIn.after resetPair_only
    | with_reducible apply OnlyIn.after restartPair_only
    | with_reducible apply OnlyIn.after syncAll_only
    | with_reducible apply OnlyIn.onlyIf
    | dsimp only
    | split

theorem changeTimers_only {set : Vector ChannelSettings 16} {s : State} :
    OnlyIn [.stc, .cdt] s (changeTimers set s) := by
  unfold changeTimers
  repeat' first
    | with_reducible exact OnlyIn.refl
    | decide
    | with_reducible intro _
    | with_reducible apply OnlyIn.after changePair_only
    | with_reducible apply OnlyIn.each

theorem loadTimers_only {set : Vector ChannelSettings 16} {s : State} :
    OnlyIn [.cdt] s (loadTimers set s) := by
  unfold loadTimers
  repeat' first
    | with_reducible exact OnlyIn.refl
    | decide
    | with_reducible intro _
    | with_reducible apply OnlyIn.after restartPair_only
    | with_reducible apply OnlyIn.each

theorem oweTicks_only {s : State} : OnlyIn [.cdt] s (oweTicks s) := by
  unfold oweTicks
  repeat' first
    | with_reducible exact OnlyIn.refl
    | decide
    | with_reducible intro _
    | with_reducible apply OnlyIn.after State.withCdt_only
    | dsimp only
    | split

/-! ## Machine/Presence.lean -/

theorem alterDpm_only {f : Dpm → Dpm} {s : State} : OnlyIn [.dpm] s (alterDpm f s) := by
  unfold alterDpm
  repeat' first
    | with_reducible exact OnlyIn.refl
    | decide
    | with_reducible intro _
    | with_reducible apply OnlyIn.after State.withDpm_only

theorem presenceNotices_only {old new : Presence} {s : State} :
    OnlyIn (.clu :: zoneBlocks) s (presenceNotices old new s) := by
  unfold presenceNotices
  repeat' first
    | with_reducible exact OnlyIn.refl
    | decide
    | with_reducible intro _
    | with_reducible apply OnlyIn.after lanternsDetached_only
    | with_reducible apply OnlyIn.after overridesAttached_only
    | with_reducible apply OnlyIn.after overridesDetached_only
    | with_reducible apply OnlyIn.after sessionsDetached_only
    | dsimp only
    | split

theorem changePresence_only {new : Presence} {s : State} :
    OnlyIn presenceBlocks s (changePresence new s) := by
  unfold changePresence
  repeat' first
    | with_reducible exact OnlyIn.refl
    | decide
    | with_reducible intro _
    | with_reducible apply OnlyIn.after alterDpm_only
    | with_reducible apply OnlyIn.after markDirty_only
    | with_reducible apply OnlyIn.after offerClass_only
    | with_reducible apply OnlyIn.after presenceNotices_only
    | with_reducible apply OnlyIn.after setCause_only

theorem setBoardLost_only {s : State} : OnlyIn sequenceBlocks s (setBoardLost s) := by
  unfold setBoardLost
  repeat' first
    | with_reducible exact OnlyIn.refl
    | decide
    | with_reducible intro _
    | with_reducible apply OnlyIn.after State.withDev_only
    | with_reducible apply OnlyIn.after State.withPort_only
    | with_reducible apply OnlyIn.after alterDpm_only
    | with_reducible apply OnlyIn.after changePresence_only
    | with_reducible apply OnlyIn.after setCause_only
    | with_reducible apply OnlyIn.onlyIf
    | dsimp only
    | split

theorem clearBoardLost_only {s : State} : OnlyIn [.port, .dpm] s (clearBoardLost s) := by
  unfold clearBoardLost
  repeat' first
    | with_reducible exact OnlyIn.refl
    | decide
    | with_reducible intro _
    | with_reducible apply OnlyIn.after State.withPort_only
    | with_reducible apply OnlyIn.after alterDpm_only

theorem setFailures_only {n : Nat} {s : State} : OnlyIn [.port, .mir] s (setFailures n s) := by
  unfold setFailures
  repeat' first
    | with_reducible exact OnlyIn.refl
    | decide
    | with_reducible intro _
    | with_reducible apply OnlyIn.after State.withPort_only
    | with_reducible apply OnlyIn.after markDirty_only
    | with_reducible apply OnlyIn.onlyIf

theorem endSequence_only {ok : Bool} {s : State} : OnlyIn sequenceBlocks s (endSequence ok s) := by
  unfold endSequence
  repeat' first
    | with_reducible exact OnlyIn.refl
    | decide
    | with_reducible intro _
    | with_reducible apply OnlyIn.after State.withPort_only
    | with_reducible apply OnlyIn.after clearBoardLost_only
    | with_reducible apply OnlyIn.after setBoardLost_only
    | with_reducible apply OnlyIn.after setFailures_only
    | with_reducible apply OnlyIn.onlyIf
    | dsimp only
    | split

theorem countChange_only {s : State} : OnlyIn presenceBlocks s (countChange s) := by
  unfold countChange
  repeat' first
    | with_reducible exact OnlyIn.refl
    | decide
    | with_reducible intro _
    | with_reducible apply OnlyIn.after alterDpm_only
    | with_reducible apply OnlyIn.after changePresence_only
    | dsimp only
    | split

theorem changedCheck_only {cleared : Bool} {s : State} :
    OnlyIn presenceBlocks s (changedCheck cleared s) := by
  unfold changedCheck
  repeat' first
    | with_reducible exact OnlyIn.refl
    | decide
    | with_reducible intro _
    | with_reducible apply OnlyIn.after alterDpm_only
    | with_reducible apply OnlyIn.after changePresence_only
    | with_reducible apply OnlyIn.after countChange_only
    | dsimp only
    | split

theorem unchangedCheck_only {s : State} : OnlyIn presenceBlocks s (unchangedCheck s) := by
  unfold unchangedCheck
  repeat' first
    | with_reducible exact OnlyIn.refl
    | decide
    | with_reducible intro _
    | with_reducible apply OnlyIn.after alterDpm_only
    | with_reducible apply OnlyIn.after changePresence_only
    | dsimp only
    | split

theorem takeCheck_only {answer : WordRead} {s : State} :
    OnlyIn sequenceBlocks s (takeCheck answer s) := by
  unfold takeCheck
  repeat' first
    | with_reducible exact OnlyIn.refl
    | decide
    | with_reducible intro _
    | with_reducible apply OnlyIn.after alterDpm_only
    | with_reducible apply OnlyIn.after changedCheck_only
    | with_reducible apply OnlyIn.after endSequence_only
    | with_reducible apply OnlyIn.after markDirty_only
    | with_reducible apply OnlyIn.after unchangedCheck_only
    | dsimp only
    | split

/-! ## Machine/Displays.lean -/

theorem panelNotices_only {old new : DisplayRecord} {s : State} :
    OnlyIn stringBlocks s (panelNotices old new s) := by
  unfold panelNotices
  repeat' first
    | with_reducible exact OnlyIn.refl
    | decide
    | with_reducible intro _
    | with_reducible apply OnlyIn.after enterSchedule_only
    | with_reducible apply OnlyIn.after leaveSchedule_only
    | with_reducible apply OnlyIn.after settleString_only
    | with_reducible apply OnlyIn.onlyIf
    | dsimp only
    | split

theorem unbindNotice_only {old new : DisplayRecord} {s : State} :
    OnlyIn sessionBlocks s (unbindNotice old new s) := by
  unfold unbindNotice
  repeat' first
    | with_reducible exact OnlyIn.refl
    | decide
    | with_reducible intro _
    | with_reducible apply OnlyIn.after unbindSession_only
    | dsimp only
    | split

theorem bindNotice_only {d : Nat} {old new : DisplayRecord} {s : State} :
    OnlyIn sessionBlocks s (bindNotice d old new s) := by
  unfold bindNotice
  repeat' first
    | with_reducible exact OnlyIn.refl
    | decide
    | with_reducible intro _
    | with_reducible apply OnlyIn.after bindSession_only
    | with_reducible apply OnlyIn.after sessionPanelChanged_only
    | with_reducible apply OnlyIn.after sessionZoneChanged_only
    | with_reducible apply OnlyIn.onlyIf
    | dsimp only
    | split

theorem lanternNotice_only {d : Nat} {old new : DisplayRecord} {s : State} :
    OnlyIn [.clu] s (lanternNotice d old new s) := by
  unfold lanternNotice
  repeat' first
    | with_reducible exact OnlyIn.refl
    | decide
    | with_reducible intro _
    | with_reducible apply OnlyIn.after State.setLantern_only
    | dsimp only
    | split

theorem acceptDisplay_only {d : Nat} {new : DisplayRecord} {s : State} :
    OnlyIn displayBlocks s (acceptDisplay d new s) := by
  unfold acceptDisplay
  repeat' first
    | with_reducible exact OnlyIn.refl
    | decide
    | with_reducible intro _
    | with_reducible apply OnlyIn.after State.setDisplay_only
    | with_reducible apply OnlyIn.after askRecompose_only
    | with_reducible apply OnlyIn.after bindNotice_only
    | with_reducible apply OnlyIn.after dropComposition_only
    | with_reducible apply OnlyIn.after lanternNotice_only
    | with_reducible apply OnlyIn.after panelNotices_only
    | with_reducible apply OnlyIn.after unbindNotice_only
    | dsimp only
    | split

theorem takeDisplay_only {d : Nat} {body : List Byte} {s : State} :
    OnlyIn displayBlocks s (takeDisplay d body s).1 := by
  unfold takeDisplay
  repeat' first
    | with_reducible exact OnlyIn.refl
    | decide
    | with_reducible intro _
    | with_reducible apply OnlyIn.after acceptDisplay_only
    | dsimp only
    | split

theorem resolveEvacuate_only {item : Nat} {p : Plan} {s : State} :
    OnlyIn [.mir, .cst] s (resolveEvacuate item p s).1 := by
  unfold resolveEvacuate
  repeat' first
    | with_reducible exact OnlyIn.refl
    | decide
    | with_reducible intro _
    | with_reducible apply OnlyIn.after lookupItem_only
    | dsimp only
    | split

theorem completePlan_only {item : Nat} {p : Plan} {s : State} :
    OnlyIn [.mir, .cst] s (completePlan item p s).1 := by
  unfold completePlan
  repeat' first
    | with_reducible exact OnlyIn.refl
    | decide
    | with_reducible intro _
    | with_reducible apply OnlyIn.after lookupItem_only
    | dsimp only
    | split

theorem resolvePlan_only {d : Nat} {s : State} : OnlyIn [.mir, .cst] s (resolvePlan d s).1 := by
  unfold resolvePlan
  repeat' first
    | with_reducible exact OnlyIn.refl
    | decide
    | with_reducible intro _
    | with_reducible apply OnlyIn.after completePlan_only
    | with_reducible apply OnlyIn.after resolveEvacuate_only
    | dsimp only
    | split

theorem recomposeDisplay_only {why : Ask} {d : Nat} {s : State} :
    OnlyIn [.mir, .cmp, .cst, .stc] s (recomposeDisplay why d s) := by
  unfold recomposeDisplay
  repeat' first
    | with_reducible exact OnlyIn.refl
    | decide
    | with_reducible intro _
    | with_reducible apply OnlyIn.after State.setComp_only
    | with_reducible apply OnlyIn.after markUrgent_only
    | with_reducible apply OnlyIn.after resolvePlan_only
    | with_reducible apply OnlyIn.onlyIf

/-! ## Machine/Pages.lean -/

theorem alterRoute_only {r : Nat} {f : Route → Route} {s : State} :
    OnlyIn [.eru] s (alterRoute r f s) := by
  unfold alterRoute
  repeat' first
    | with_reducible exact OnlyIn.refl
    | decide
    | with_reducible intro _
    | with_reducible apply OnlyIn.after State.setRoute_only

theorem countDraw_only {s : State} : OnlyIn [.mir, .eru] s (countDraw s) := by
  unfold countDraw
  repeat' first
    | with_reducible exact OnlyIn.refl
    | decide
    | with_reducible intro _
    | with_reducible apply OnlyIn.after State.withEru_only
    | with_reducible apply OnlyIn.after markDirty_only

theorem placePage_only {r : Nat} {asOpen : Bool} {slot : BitVec 64} {s : State} :
    OnlyIn [.mir, .eru] s (placePage r asOpen slot s) := by
  unfold placePage
  repeat' first
    | with_reducible exact OnlyIn.refl
    | decide
    | with_reducible intro _
    | with_reducible apply OnlyIn.after alterRoute_only
    | with_reducible apply OnlyIn.after countDraw_only
    | with_reducible apply OnlyIn.after markDirty_only
    | dsimp only
    | split

theorem closeWritten_only {r carried : Nat} {toSuccessor : Bool} {s : State} :
    OnlyIn offerBlocks s (closeWritten r carried toSuccessor s) := by
  unfold closeWritten
  repeat' first
    | with_reducible exact OnlyIn.refl
    | decide
    | with_reducible intro _
    | with_reducible apply OnlyIn.after alterRoute_only
    | with_reducible apply OnlyIn.after markDirty_only
    | with_reducible apply OnlyIn.after setCause_only

theorem reachStopPoint_only {r : Nat} {s : State} : OnlyIn offerBlocks s (reachStopPoint r s) := by
  unfold reachStopPoint
  repeat' first
    | with_reducible exact OnlyIn.refl
    | decide
    | with_reducible intro _
    | with_reducible apply OnlyIn.after alterRoute_only
    | with_reducible apply OnlyIn.after countRefusal_only
    | with_reducible apply OnlyIn.each

theorem setEnable_only {r : Nat} {on : Bool} {s : State} :
    OnlyIn [.mir, .eru] s (setEnable r on s) := by
  unfold setEnable
  repeat' first
    | with_reducible exact OnlyIn.refl
    | decide
    | with_reducible intro _
    | with_reducible apply OnlyIn.after alterRoute_only
    | with_reducible apply OnlyIn.after markDirty_only
    | with_reducible apply OnlyIn.onlyIf

theorem takeRouting_only {table : Vector RouteEntry 40} {enables : Byte} {s : State} :
    OnlyIn [.mir, .eru] s (takeRouting table enables s) := by
  unfold takeRouting
  repeat' first
    | with_reducible exact OnlyIn.refl
    | decide
    | with_reducible intro _
    | with_reducible apply OnlyIn.after State.withEru_only
    | with_reducible apply OnlyIn.after setEnable_only
    | with_reducible apply OnlyIn.each

theorem finishWith_only {bs : List Block} {f : InFlight} {ok : Bool} {g : State → State} {s : State}
    (h : ∀ u, OnlyIn bs u (g u)) (sub : sequenceBlocks.all (fun b => decide (b ∈ bs)) = true) :
    OnlyIn bs s (finishWith f ok g s) :=
  (endSequence_only.mono sub).onlyIf h

/-! ## Machine/Mirror.lean -/

theorem raiseWriteCount_only {m : MirrorRecord} {s : State} :
    OnlyIn [.mir] s (raiseWriteCount m s) := by
  unfold raiseWriteCount
  repeat' first
    | with_reducible exact OnlyIn.refl
    | decide
    | with_reducible intro _
    | with_reducible apply OnlyIn.after State.withMir_only
    | dsimp only
    | split

theorem captureRecord_only {i : Nat} {s : State} : OnlyIn [.mir] s (captureRecord i s).1 :=
  raiseWriteCount_only.after (by decide) State.withMir_only

theorem redirty_only {i : Nat} {s : State} : OnlyIn [.mir] s (redirty i s) := by
  unfold redirty
  repeat' first
    | with_reducible exact OnlyIn.refl
    | decide
    | with_reducible intro _
    | with_reducible apply OnlyIn.after State.withMir_only

/-! ## Machine/Scanner.lean -/

theorem alterScan_only {f : Scanner → Scanner} {s : State} : OnlyIn [.scan] s (alterScan f s) := by
  unfold alterScan
  repeat' first
    | with_reducible exact OnlyIn.refl
    | decide
    | with_reducible intro _
    | with_reducible apply OnlyIn.after State.withScan_only

theorem requestArea_only {a : Area} {s : State} : OnlyIn [.scan] s (requestArea a s) := by
  unfold requestArea
  repeat' first
    | with_reducible exact OnlyIn.refl
    | decide
    | with_reducible intro _
    | with_reducible apply OnlyIn.after alterScan_only

theorem startScan_only {s : State} : OnlyIn [.scan] s (startScan s) := by
  unfold startScan
  repeat' first
    | with_reducible exact OnlyIn.refl
    | decide
    | with_reducible intro _
    | with_reducible apply OnlyIn.after alterScan_only
    | dsimp only
    | split

theorem endScan_only {a : Area} {s : State} : OnlyIn [.scan] s (endScan a s) := by
  unfold endScan
  repeat' first
    | with_reducible exact OnlyIn.refl
    | decide
    | with_reducible intro _
    | with_reducible apply OnlyIn.after alterScan_only
    | with_reducible apply OnlyIn.after startScan_only

theorem offerStuck_only {area : Area} {cell : Nat} {lead tail again : Word32} {s : State} :
    OnlyIn offerBlocks s (offerStuck area cell lead tail again s) := by
  unfold offerStuck
  repeat' first
    | with_reducible exact OnlyIn.refl
    | decide
    | with_reducible intro _
    | with_reducible apply OnlyIn.after offerClass_only

theorem tornTake_only {area : Area} {cell : Nat} {lead tail again : Word32} {s : State} :
    OnlyIn (.scan :: offerBlocks) s (tornTake area cell lead tail again s) := by
  unfold tornTake
  repeat' first
    | with_reducible exact OnlyIn.refl
    | decide
    | with_reducible intro _
    | with_reducible apply OnlyIn.after alterScan_only
    | with_reducible apply OnlyIn.after offerStuck_only
    | dsimp only
    | split

theorem ownerTake_only {area : Area} {cell : Nat} {body : List Byte} {s : State} :
    OnlyIn ([.ovr, .freeUsed] ++ displayBlocks) s (ownerTake area cell body s).1 := by
  unfold ownerTake
  repeat' first
    | with_reducible exact OnlyIn.refl
    | decide
    | with_reducible intro _
    | with_reducible apply OnlyIn.after takeAnswer_only
    | with_reducible apply OnlyIn.after takeDisplay_only
    | with_reducible apply OnlyIn.after takeOverride_only
    | dsimp only
    | split

theorem countTake_only {cell : Nat} {lead : Word32} {s : State} :
    OnlyIn [.scan] s (countTake cell lead s) := by
  unfold countTake
  repeat' first
    | with_reducible exact OnlyIn.refl
    | decide
    | with_reducible intro _
    | with_reducible apply OnlyIn.after alterScan_only

theorem putReceipt_only {cell : Nat} {r : Receipt} {s : State} :
    OnlyIn [.mir] s (putReceipt cell r s) := by
  unfold putReceipt
  repeat' first
    | with_reducible exact OnlyIn.refl
    | decide
    | with_reducible intro _
    | with_reducible apply OnlyIn.after State.withMir_only
    | with_reducible apply OnlyIn.after markDirty_only

theorem newTake_only {area : Area} {cell : Nat} {lead : Word32} {body : List Byte} {s : State} :
    OnlyIn ([.scan, .ovr, .freeUsed] ++ displayBlocks) s (newTake area cell lead body s) := by
  unfold newTake
  repeat' first
    | with_reducible exact OnlyIn.refl
    | decide
    | with_reducible intro _
    | with_reducible apply OnlyIn.after countTake_only
    | with_reducible apply OnlyIn.after ownerTake_only
    | with_reducible apply OnlyIn.after putReceipt_only

theorem takeCell_only {area : Area} {cell : Nat} {lead : Word32} {burst : List Byte} {again : Word32} {s : State} :
    OnlyIn ([.scan, .ovr, .freeUsed] ++ displayBlocks) s (takeCell area cell lead burst again s) := by
  unfold takeCell
  repeat' first
    | with_reducible exact OnlyIn.refl
    | decide
    | with_reducible intro _
    | with_reducible apply OnlyIn.after alterScan_only
    | with_reducible apply OnlyIn.after newTake_only
    | with_reducible apply OnlyIn.after tornTake_only
    | dsimp only
    | split

theorem applyLoading_only {v : LiveSettings} {s : State} :
    OnlyIn ([.dev, .cst, .cdt] ++ zoneBlocks) s (applyLoading v s) := by
  unfold applyLoading
  repeat' first
    | with_reducible exact OnlyIn.refl
    | decide
    | with_reducible intro _
    | with_reducible apply OnlyIn.after State.withCst_only
    | with_reducible apply OnlyIn.after State.withDev_only
    | with_reducible apply OnlyIn.after alterString_only
    | with_reducible apply OnlyIn.after loadFireMap_only
    | with_reducible apply OnlyIn.after loadTimers_only
    | with_reducible apply OnlyIn.after takeRouting_only
    | with_reducible apply OnlyIn.each

theorem changeSettings_only {v : Vector StringSettings 16} {k : Nat} {s : State} :
    OnlyIn stringBlocks s (changeSettings v k s) := by
  unfold changeSettings
  repeat' first
    | with_reducible exact OnlyIn.refl
    | decide
    | with_reducible intro _
    | with_reducible apply OnlyIn.after alterString_only
    | with_reducible apply OnlyIn.after runChanged_only

theorem applyRunning_only {v : LiveSettings} {s : State} :
    OnlyIn ([.cst, .cdt] ++ zoneBlocks) s (applyRunning v s) := by
  unfold applyRunning
  repeat' first
    | with_reducible exact OnlyIn.refl
    | decide
    | with_reducible intro _
    | with_reducible apply OnlyIn.after changeFireMap_only
    | with_reducible apply OnlyIn.after changeSettings_only
    | with_reducible apply OnlyIn.after changeTimers_only
    | with_reducible apply OnlyIn.after changeWindows_only
    | with_reducible apply OnlyIn.after takePurgeCell_only
    | with_reducible apply OnlyIn.after takeRouting_only
    | with_reducible apply OnlyIn.each

theorem countLive_only {lead : Word32} {verdict : LiveVerdict} {s : State} :
    OnlyIn [.scan, .mir] s (countLive lead verdict s) := by
  unfold countLive
  repeat' first
    | with_reducible exact OnlyIn.refl
    | decide
    | with_reducible intro _
    | with_reducible apply OnlyIn.after alterScan_only
    | with_reducible apply OnlyIn.after markDirty_only

theorem wantLive_only {s : State} : OnlyIn [.scan] s (wantLive s) := by
  unfold wantLive
  repeat' first
    | with_reducible exact OnlyIn.refl
    | decide
    | with_reducible intro _
    | with_reducible apply OnlyIn.after alterScan_only
    | with_reducible apply OnlyIn.after requestArea_only
    | dsimp only
    | split

theorem tornLive_only {lead tail again : Word32} {s : State} :
    OnlyIn (.scan :: offerBlocks) s (tornLive lead tail again s) := by
  unfold tornLive
  repeat' first
    | with_reducible exact OnlyIn.refl
    | decide
    | with_reducible intro _
    | with_reducible apply OnlyIn.after alterScan_only
    | with_reducible apply OnlyIn.after offerStuck_only
    | with_reducible apply OnlyIn.after wantLive_only
    | dsimp only
    | split

theorem takeLive_only {lead : Word32} {burst : List Byte} {again : Word32} {s : State} :
    OnlyIn ([.scan, .cst, .cdt] ++ zoneBlocks) s (takeLive lead burst again s) := by
  unfold takeLive
  repeat' first
    | with_reducible exact OnlyIn.refl
    | decide
    | with_reducible intro _
    | with_reducible apply OnlyIn.after applyRunning_only
    | with_reducible apply OnlyIn.after countLive_only
    | with_reducible apply OnlyIn.after tornLive_only
    | dsimp only
    | split

theorem nudgeArea_only {a : Area} {s : State} : OnlyIn [.scan] s (nudgeArea a s) := by
  unfold nudgeArea
  repeat' first
    | with_reducible exact OnlyIn.refl
    | decide
    | with_reducible intro _
    | with_reducible apply OnlyIn.after alterScan_only
    | with_reducible apply OnlyIn.after requestArea_only
    | with_reducible apply OnlyIn.after startScan_only
    | dsimp only
    | split

theorem expireScan_only {s : State} : OnlyIn [.scan] s (expireScan s) := by
  unfold expireScan
  repeat' first
    | with_reducible exact OnlyIn.refl
    | decide
    | with_reducible intro _
    | with_reducible apply OnlyIn.after alterScan_only
    | with_reducible apply OnlyIn.after requestArea_only
    | with_reducible apply OnlyIn.after startScan_only
    | with_reducible apply OnlyIn.onlyIf

/-! ## Machine/Loading.lean -/

theorem clearForStart_only {s : State} : OnlyIn [.port, .scan, .mir, .ddir, .cmp, .clu, .drq, .eru, .ovr, .cst, .stc, .cdt, .dpm] s (clearForStart s) := by
  unfold clearForStart
  refine OnlyIn.after markAllDirty_only (by decide) ?_
  intro b hb; cases b <;> first | rfl | exact absurd (by decide) hb

theorem enterLoading_only {s : State} :
    OnlyIn [.dev, .port, .scan, .mir, .ddir, .cmp, .clu, .drq, .eru, .ovr, .cst, .stc, .cdt, .dpm] s (enterLoading s) := by
  unfold enterLoading
  repeat' first
    | with_reducible exact OnlyIn.refl
    | decide
    | with_reducible intro _
    | with_reducible apply OnlyIn.after State.withDev_only
    | with_reducible apply OnlyIn.after clearForStart_only

theorem discardFlight_only {s : State} : OnlyIn [.port] s (discardFlight s) := by
  unfold discardFlight
  repeat' first
    | with_reducible exact OnlyIn.refl
    | decide
    | with_reducible intro _
    | with_reducible apply OnlyIn.after State.withPort_only

theorem enterIdle_only {s : State} :
    OnlyIn [.dev, .port, .scan, .mir, .clu, .cst, .dpm] s (enterIdle s) := by
  unfold enterIdle
  repeat' first
    | with_reducible exact OnlyIn.refl
    | decide
    | with_reducible intro _
    | with_reducible apply OnlyIn.after State.withDev_only
    | with_reducible apply OnlyIn.after emptyDirty_only
    | with_reducible apply OnlyIn.after alterDpm_only
    | with_reducible apply OnlyIn.after alterScan_only
    | with_reducible apply OnlyIn.after discardFlight_only
    | with_reducible apply OnlyIn.after dropQueue_only
    | with_reducible apply OnlyIn.after huntAll_only

theorem failLoading_only {code : StartFault} {s : State} :
    OnlyIn [.cause, .dev, .port, .scan, .mir, .clu, .cst, .dpm] s (failLoading code s) := by
  unfold failLoading
  repeat' first
    | with_reducible exact OnlyIn.refl
    | decide
    | with_reducible intro _
    | with_reducible apply OnlyIn.after State.withDev_only
    | with_reducible apply OnlyIn.after enterIdle_only
    | with_reducible apply OnlyIn.after setCause_only

theorem enterRunning_only {s : State} :
    OnlyIn ([.dev, .scan, .clu, .dpm] ++ stringBlocks) s (enterRunning s) := by
  unfold enterRunning
  repeat' first
    | with_reducible exact OnlyIn.refl
    | decide
    | with_reducible intro _
    | with_reducible apply OnlyIn.after State.withClu_only
    | with_reducible apply OnlyIn.after State.withDev_only
    | with_reducible apply OnlyIn.after alterDpm_only
    | with_reducible apply OnlyIn.after alterScan_only
    | with_reducible apply OnlyIn.after runChanged_only
    | with_reducible apply OnlyIn.after startScan_only
    | with_reducible apply OnlyIn.each

theorem enterStopping_only {s : State} :
    OnlyIn ([.dev, .port, .scan, .clu] ++ stringBlocks) s (enterStopping s) := by
  unfold enterStopping
  repeat' first
    | with_reducible exact OnlyIn.refl
    | decide
    | with_reducible intro _
    | with_reducible apply OnlyIn.after State.withDev_only
    | with_reducible apply OnlyIn.after State.withPort_only
    | with_reducible apply OnlyIn.after alterScan_only
    | with_reducible apply OnlyIn.after huntAll_only
    | with_reducible apply OnlyIn.after runChanged_only
    | with_reducible apply OnlyIn.each

theorem beginFirstScan_only {s : State} :
    OnlyIn ([.dev, .scan] ++ zoneBlocks) s (beginFirstScan s) := by
  unfold beginFirstScan
  repeat' first
    | with_reducible exact OnlyIn.refl
    | decide
    | with_reducible intro _
    | with_reducible apply OnlyIn.after State.withDev_only
    | with_reducible apply OnlyIn.after alterScan_only
    | with_reducible apply OnlyIn.after endPreFill_only

theorem checkPreFill_only {s : State} :
    OnlyIn ([.dev, .scan] ++ zoneBlocks) s (checkPreFill s) := by
  unfold checkPreFill
  repeat' first
    | with_reducible exact OnlyIn.refl
    | decide
    | with_reducible intro _
    | with_reducible apply OnlyIn.after beginFirstScan_only
    | with_reducible apply OnlyIn.onlyIf

theorem takeHeader_only {b : List Byte} {s : State} :
    OnlyIn ([.dev, .hdr, .port, .scan, .clu, .cst, .dpm] ++ offerBlocks) s (takeHeader b s) := by
  unfold takeHeader
  repeat' first
    | with_reducible exact OnlyIn.refl
    | decide
    | with_reducible intro _
    | with_reducible apply OnlyIn.after State.withDev_only
    | with_reducible apply OnlyIn.after State.withEru_only
    | with_reducible apply OnlyIn.after State.withHdr_only
    | with_reducible apply OnlyIn.after alterDpm_only
    | with_reducible apply OnlyIn.after failLoading_only
    | with_reducible apply OnlyIn.after markDirty_only
    | dsimp only
    | split

theorem loadLive_only {lead : Word32} {burst : List Byte} {again : Word32} {s : State} :
    OnlyIn ([.scan, .cst, .cdt] ++ sequenceBlocks) s (loadLive lead burst again s) := by
  unfold loadLive
  repeat' first
    | with_reducible exact OnlyIn.refl
    | decide
    | with_reducible intro _
    | with_reducible apply OnlyIn.after applyLoading_only
    | with_reducible apply OnlyIn.after countLive_only
    | with_reducible apply OnlyIn.after failLoading_only
    | dsimp only
    | split

theorem loadSupply_only {count : Word32} {s : State} :
    OnlyIn ([.dev, .scan, .cst] ++ zoneBlocks) s (loadSupply count s) := by
  unfold loadSupply
  repeat' first
    | with_reducible exact OnlyIn.refl
    | decide
    | with_reducible intro _
    | with_reducible apply OnlyIn.after State.withDev_only
    | with_reducible apply OnlyIn.after State.withEru_only
    | with_reducible apply OnlyIn.after beginPreFill_only
    | with_reducible apply OnlyIn.after checkPreFill_only

theorem groupDone_only {area : Area} {g : Nat} {s : State} :
    OnlyIn ([.dev, .scan, .clu, .dpm] ++ stringBlocks) s (groupDone area g s) := by
  unfold groupDone
  repeat' first
    | with_reducible exact OnlyIn.refl
    | decide
    | with_reducible intro _
    | with_reducible apply OnlyIn.after alterScan_only
    | with_reducible apply OnlyIn.after endScan_only
    | with_reducible apply OnlyIn.after enterRunning_only
    | dsimp only
    | split

theorem visitGroup_only {area : Area} {g : Nat} {v : Word32} {s : State} :
    OnlyIn ([.dev, .scan, .clu, .dpm] ++ stringBlocks) s (visitGroup area g v s) := by
  unfold visitGroup
  repeat' first
    | with_reducible exact OnlyIn.refl
    | decide
    | with_reducible intro _
    | with_reducible apply OnlyIn.after alterScan_only
    | with_reducible apply OnlyIn.after groupDone_only
    | dsimp only
    | split

theorem setSeen_only {g i : Nat} {counter : Word32} {clean : Bool} {s : State} :
    OnlyIn [.scan] s (setSeen g i counter clean s) := by
  unfold setSeen
  repeat' first
    | with_reducible exact OnlyIn.refl
    | decide
    | with_reducible intro _
    | with_reducible apply OnlyIn.after alterScan_only
    | with_reducible apply OnlyIn.onlyIf

theorem cellDone_only {area : Area} {g i : Nat} {counter : Word32} {clean : Bool} {s : State} :
    OnlyIn ([.dev, .scan, .clu, .dpm] ++ stringBlocks) s (cellDone area g i counter clean s) := by
  unfold cellDone
  repeat' first
    | with_reducible exact OnlyIn.refl
    | decide
    | with_reducible intro _
    | with_reducible apply OnlyIn.after alterScan_only
    | with_reducible apply OnlyIn.after endScan_only
    | with_reducible apply OnlyIn.after groupDone_only
    | with_reducible apply OnlyIn.after setSeen_only
    | dsimp only
    | split

theorem scanFails_only {bs : List Block} {code : StartFault} {g : State → State} {s : State}
    (h : ∀ u, OnlyIn bs u (g u))
    (sub : [Block.cause, .dev, .port, .scan, .mir, .clu, .cst, .dpm].all
      (fun b => decide (b ∈ bs)) = true) :
    OnlyIn bs s (scanFails code g s) := by
  unfold scanFails
  split
  · exact failLoading_only.mono sub
  · exact h s

theorem finishCell_only {area : Area} {g i : Nat} {counter : Word32} {clean : Bool} {answer : TakeRead} {s : State} :
    OnlyIn ([.scan, .ddir, .cst, .freeUsed] ++ sequenceBlocks) s (finishCell area g i counter clean answer s) := by
  unfold finishCell
  repeat' first
    | with_reducible exact OnlyIn.refl
    | decide
    | with_reducible intro _
    | with_reducible apply OnlyIn.after cellDone_only
    | with_reducible apply scanFails_only
    | with_reducible apply OnlyIn.after takeCell_only
    | dsimp only
    | split

theorem seedCell_only {g i : Nat} {v : Word32} {s : State} :
    OnlyIn ([.dev, .scan, .clu, .dpm] ++ stringBlocks) s (seedCell g i v s) := by
  unfold seedCell
  repeat' first
    | with_reducible exact OnlyIn.refl
    | decide
    | with_reducible intro _
    | with_reducible apply OnlyIn.after alterScan_only
    | with_reducible apply OnlyIn.after groupDone_only
    | dsimp only
    | split

theorem takeFill_only {e : FillEntry} {answer : FillRead} {s : State} :
    OnlyIn ([.cmp, .ovr, .cst] ++ offerBlocks) s (takeFill e answer s) := by
  unfold takeFill
  repeat' first
    | with_reducible exact OnlyIn.refl
    | decide
    | with_reducible intro _
    | with_reducible apply OnlyIn.after completeFill_only
    | with_reducible apply OnlyIn.after faultFill_only
    | with_reducible apply OnlyIn.after preFillFaults_only
    | with_reducible apply OnlyIn.after refetchEntry_only
    | with_reducible apply OnlyIn.onlyIf
    | dsimp only
    | split

theorem endStopping_only {s : State} :
    OnlyIn ([.scan, .ddir, .cst, .cdt] ++ sequenceBlocks) s (endStopping s) := by
  unfold endStopping
  repeat' first
    | with_reducible exact OnlyIn.refl
    | decide
    | with_reducible intro _
    | with_reducible apply OnlyIn.after enterIdle_only
    | with_reducible apply OnlyIn.after enterLoading_only
    | with_reducible apply OnlyIn.after setCause_only
    | with_reducible apply OnlyIn.onlyIf

/-! ## Machine/Port.lean -/

theorem startClaim_only {c : Claimant} {s t : State} {f : InFlight} (h : startClaim c s = some (t, f)) :
    OnlyIn [.mir, .eru, .cst] s t := by
  unfold startClaim at h
  split at h
  · cases h
  · split at h
    · split at h
      · cases h; exact State.withEru_only.mono (by decide)
      · cases h
    · split at h
      · cases h; exact startHead_only.mono (by decide)
      · cases h
    · cases hs : s.scannerAccess with
      | none => simp [hs] at h
      | some a => simp [hs] at h; rw [← h.1]; exact OnlyIn.refl
    · split at h
      · cases h; exact OnlyIn.refl
      · cases h
    · cases hn : s.nextDirty with
      | none => simp [hn] at h
      | some i =>
        have e : (captureRecord i s).1 = t := by simp [hn] at h; rw [h]
        rw [← e]; exact captureRecord_only.mono (by decide)

theorem grantPort_only {c : Claimant} {f : InFlight} {s : State} :
    OnlyIn [.port] s (grantPort c f s) := by
  unfold grantPort
  repeat' first
    | with_reducible exact OnlyIn.refl
    | decide
    | with_reducible intro _
    | with_reducible apply OnlyIn.after State.withPort_only

theorem grantFirst_only {order : List Claimant} {s : State} :
    OnlyIn [.port, .mir, .eru, .cst] s (grantFirst order s) := by
  induction order with
  | nil => exact OnlyIn.refl
  | cons c rest ih =>
    unfold grantFirst
    split
    · next t f h => exact grantPort_only.after (by decide) ((startClaim_only h).mono (by decide))
    · exact ih

/-! ## Machine/Registers.lean -/

theorem keepPins_only {old s : State} : OnlyIn [.ovr] s (keepPins old s) := by
  unfold keepPins
  repeat' first
    | with_reducible exact OnlyIn.refl
    | decide
    | with_reducible intro _
    | with_reducible apply OnlyIn.after State.withOvr_only

theorem resetMarks_only {s : State} : OnlyIn [.mir] s (resetMarks s) := by
  unfold resetMarks
  exact emptyDirty_only.after (by decide) markCars_only

theorem softReset_only {s : State} : OnlyIn ([.win, .hdr, .scan, .ddir, .cst, .cdt] ++ sequenceBlocks) s (softReset s) := by
  unfold softReset
  refine OnlyIn.after resetMarks_only (by decide) (OnlyIn.after keepPins_only (by decide) ?_)
  intro b hb; cases b <;> first | rfl | exact absurd (by decide) hb

theorem raiseRunBit_only {s : State} :
    OnlyIn [.dev, .port, .scan, .mir, .ddir, .cmp, .clu, .drq, .eru, .ovr, .cst, .stc, .cdt, .dpm] s (raiseRunBit s) := by
  unfold raiseRunBit
  repeat' first
    | with_reducible exact OnlyIn.refl
    | decide
    | with_reducible intro _
    | with_reducible apply OnlyIn.after enterLoading_only
    | dsimp only
    | split

theorem lowerRunBit_only {s : State} :
    OnlyIn ([.dev, .port, .scan, .clu, .cst, .dpm] ++ stringBlocks) s (lowerRunBit s) := by
  unfold lowerRunBit
  repeat' first
    | with_reducible exact OnlyIn.refl
    | decide
    | with_reducible intro _
    | with_reducible apply OnlyIn.after enterIdle_only
    | with_reducible apply OnlyIn.after enterStopping_only
    | with_reducible apply OnlyIn.after setCause_only
    | dsimp only
    | split

/-! ## Machine/Clock.lean -/

theorem tickRunning_only {s : State} : OnlyIn [.scan, .clu, .drq, .eru] s (tickRunning s) := by
  unfold tickRunning
  repeat' first
    | with_reducible exact OnlyIn.refl
    | decide
    | with_reducible intro _
    | with_reducible apply OnlyIn.after State.withClu_only
    | with_reducible apply OnlyIn.after State.withDrq_only
    | with_reducible apply OnlyIn.after State.withEru_only
    | with_reducible apply OnlyIn.after State.withScan_only

theorem tickCheck_only {s : State} : OnlyIn [.dpm] s (tickCheck s) := by
  unfold tickCheck
  repeat' first
    | with_reducible exact OnlyIn.refl
    | decide
    | with_reducible intro _
    | with_reducible apply OnlyIn.after State.withDpm_only

theorem tickQuarantine_only {s : State} : OnlyIn [.cst] s (tickQuarantine s) := by
  unfold tickQuarantine
  repeat' first
    | with_reducible exact OnlyIn.refl
    | decide
    | with_reducible intro _
    | with_reducible apply OnlyIn.after State.withCst_only

theorem tickStrings_only {s : State} : OnlyIn [.stc] s (tickStrings s) := by
  unfold tickStrings
  repeat' first
    | with_reducible exact OnlyIn.refl
    | decide
    | with_reducible intro _
    | with_reducible apply OnlyIn.after State.withStc_only

theorem samplePins_only {s : State} : OnlyIn [.ovr] s (samplePins s) := by
  unfold samplePins
  repeat' first
    | with_reducible exact OnlyIn.refl
    | decide
    | with_reducible intro _
    | with_reducible apply OnlyIn.after State.withOvr_only

theorem deviceTick_only {s : State} :
    OnlyIn [.dev, .scan, .clu, .drq, .eru, .ovr, .cst, .stc, .cdt, .dpm] s (deviceTick s) := by
  unfold deviceTick
  repeat' first
    | with_reducible exact OnlyIn.refl
    | decide
    | with_reducible intro _
    | with_reducible apply OnlyIn.after State.withDev_only
    | with_reducible apply OnlyIn.after oweTicks_only
    | with_reducible apply OnlyIn.after samplePins_only
    | with_reducible apply OnlyIn.after tickCheck_only
    | with_reducible apply OnlyIn.after tickQuarantine_only
    | with_reducible apply OnlyIn.after tickRunning_only
    | with_reducible apply OnlyIn.after tickStrings_only
    | with_reducible apply OnlyIn.onlyIf

end Sys2Proof.Machine
end

