-- ==== Sys2Proof/Laws/Asked.lean ====
section
/-! SUPPORT. What a request for recomposition, a changed lantern and a changed car record leave of what is kept for
the displays, said once. -/

namespace Sys2Proof.Machine

/-- What keeps off the directory leaves every standing as it was. -/
theorem OnlyIn.isBound {bs : List Block} {s t : State} (h : OnlyIn bs s t) (hd : Block.ddir ∉ bs) (d : Nat) :
    t.isBound d = s.isBound d := by
  have : t.ddir = s.ddir := h .ddir hd
  simp only [State.isBound, State.display, this]

theorem Composition.askedFor_none {bound : Bool} {c : Composition} : c.askedFor bound none = c := by
  cases bound <;> simp [askedFor]

theorem Composition.askedFor_askedFor {bound : Bool} {a b : Option Ask} {c : Composition} :
    (c.askedFor bound a).askedFor bound b = c.askedFor bound (a.or b) := by
  cases bound <;> simp [askedFor, Option.or_assoc]

/-- A display of a standing other than BOUND has no use for a reason. -/
theorem Composition.askedFor_congr {bound : Bool} {a b : Option Ask} {c : Composition}
    (h : bound = true → a = b) : c.askedFor bound a = c.askedFor bound b := by
  cases bound
  · rfl
  · rw [h rfl]

/-- What is kept for the displays stands where the block stands. -/
theorem RecompositionAsked.of_same {s t : State} (h : t.cmp = s.cmp) :
    RecompositionAsked (fun _ => none) s t := fun d => by
  simp only [State.comp, h, Composition.askedFor_none]

/-- Requests made one after another: the earlier reason stands (R9; log 12). -/
theorem RecompositionAsked.trans {why why' : Nat → Option Ask} {s t u : State}
    (h : RecompositionAsked why s t) (k : RecompositionAsked why' t u) (hb : ∀ d, t.isBound d = s.isBound d) :
    RecompositionAsked (fun d => (why d).or (why' d)) s u := fun d => by
  rw [k d, h d, hb, Composition.askedFor_askedFor]

theorem RecompositionAsked.congr {why why' : Nat → Option Ask} {s t : State}
    (h : RecompositionAsked why s t) (k : ∀ d, s.isBound d = true → why d = why' d) :
    RecompositionAsked why' s t := fun d => by
  rw [h d]; exact Composition.askedFor_congr (k d)

/-- A request for one display (R9; log 12). -/
theorem askRecompose_asked {why : Ask} {d : Nat} {s : State} :
    RecompositionAsked (fun e => if e = d then some why else none) s (askRecompose why d s) := fun e => by
  have comp : ∀ c, (s.setComp d c).comp e = if d = e ∧ d < 512 then c else s.comp e := fun c => tget_tset ..
  have beyond : ¬ e < 512 → s.isBound e = false := fun h => by
    have : s.display e = DisplayRecord.initial := tget_ge _ _ _ (by omega)
    simp only [State.isBound, this]; rfl
  unfold askRecompose Composition.askedFor
  by_cases he : e = d
  · subst he
    cases hb : s.isBound e
    · simp
    · have : e < 512 := by
        by_cases h : e < 512
        · exact h
        · rw [beyond h] at hb; cases hb
      cases ha : (s.comp e).asked <;> simp [comp, this]
      rw [← ha]
  · have : ¬ d = e := fun h => he h.symm
    simp only [he, if_false, Option.or_none, ite_self]
    split
    · rw [comp]; simp [this]
    · rfl

/-- Requests for the displays of a list (R9; log 12). -/
theorem askEach_asked {why : Ask} {l : List Nat} {s : State} :
    RecompositionAsked (fun d => if d ∈ l then some why else none) s (each l (askRecompose why) s) := by
  induction l generalizing s with
  | nil => simpa using RecompositionAsked.of_same (s := s) rfl
  | cons a l ih =>
    refine (askRecompose_asked.trans ih (OnlyIn.isBound askRecompose_only (by decide))).congr ?_
    intro d _
    by_cases h : d = a <;> simp [h]

/-- Requests for the BOUND displays whose records satisfy a predicate. -/
theorem askWhere_asked {why : Ask} {p : DisplayRecord → Bool} {s : State} :
    RecompositionAsked (fun d => if p (s.display d) then some why else none) s (askWhere why p s) := by
  unfold askWhere
  refine askEach_asked.congr fun d hb => ?_
  have hd : d < 512 := by
    by_cases h : d < 512
    · exact h
    · have : s.display d = DisplayRecord.initial := tget_ge _ _ _ (by omega)
      simp only [State.isBound, this] at hb; cases hb
  simp only [mem_twhere s.ddir _ d DisplayRecord.initial, hd, true_and, Bool.and_eq_true]
  have : (s.display d).status == .bound := hb
  simp only [State.display] at this ⊢
  by_cases hp : p (tget s.ddir d DisplayRecord.initial) = true <;> simp [this, hp]

/-- A changed car record asks of the displays that show it, and of no other (R45). -/
theorem carChanged_asked {car : Nat} {s : State} : RecompositionAsked (carAsk car s) s (carChanged car s) := by
  have mark : OnlyIn [.mir] s (markDirty (.car car) s) := markDirty_only
  unfold carChanged
  refine ((RecompositionAsked.of_same (mark .cmp (by decide))).trans askWhere_asked
    (mark.isBound (by decide))).congr fun d _ => ?_
  have : (markDirty (.car car) s).display d = s.display d := by
    simp only [State.display, show (markDirty (.car car) s).ddir = s.ddir from mark .ddir (by decide)]
  simp only [Option.none_or, this, carAsk, Binding.showsCar]
  cases (s.display d).binding <;> rfl

/-- A change of one lantern record leaves the others. -/
theorem alterLantern_other {f : Lantern → Lantern} {d e : Nat} {s : State} (h : e ≠ d) :
    (alterLantern f d s).lantern e = s.lantern e := by
  have set : ∀ x, (s.setLantern d x).lantern e = s.lantern e := fun x => tget_tset_ne _ _ _ _ _ (Ne.symm h)
  have ask : ∀ why u, (askRecompose why d u).lantern e = u.lantern e := fun why u => by
    simp only [State.lantern, show (askRecompose why d u).clu = u.clu from askRecompose_only .clu (by decide)]
  unfold alterLantern changeLantern
  split
  · rfl
  · split
    · rfl
    · dsimp only
      split
      · rw [ask, set]
      · exact set _

/-- A change of one lantern record asks of its display where what R55 names has changed (R55). -/
theorem alterLantern_asked {f : Lantern → Lantern} {d : Nat} {s : State} :
    RecompositionAsked (lanternAsk s (alterLantern f d s)) s (alterLantern f d s) := by
  have other : ∀ e, e ≠ d → lanternAsk s (alterLantern f d s) e = none := fun e h => by
    simp only [lanternAsk, alterLantern_other h, if_true]
  cases hl : s.lantern d with
  | none =>
    have same : alterLantern f d s = s := by simp only [alterLantern, hl]
    rw [same]
    exact (RecompositionAsked.of_same rfl).congr fun e _ => by simp [lanternAsk]
  | some x =>
    have hd : d < 512 := by
      by_cases h : d < 512
      · exact h
      · rw [State.lantern, tget_ge _ _ _ (by omega)] at hl; cases hl
    have got : (s.setLantern d (some (f x))).lantern d = some (f x) := tget_tset_self _ _ _ _ hd
    have clu : ∀ why u, (askRecompose why d u).lantern d = u.lantern d := fun why u => by
      simp only [State.lantern, show (askRecompose why d u).clu = u.clu from askRecompose_only .clu (by decide)]
    have set : OnlyIn [.clu] s (s.setLantern d (some (f x))) := State.setLantern_only
    have kept := RecompositionAsked.of_same (set .cmp (by decide))
    have eq : alterLantern f d s =
        if x.state != (f x).state || x.expected != (f x).expected || x.direction != (f x).direction then
          askRecompose .session d (s.setLantern d (some (f x)))
        else s.setLantern d (some (f x)) := by
      simp only [alterLantern, changeLantern, hl]
    by_cases hc : (x.state != (f x).state || x.expected != (f x).expected
        || x.direction != (f x).direction) = true
    · rw [if_pos hc] at eq
      have asks : lanternAsk s (alterLantern f d s) d = some .session := by
        rw [eq]; simp only [lanternAsk, clu, got, hl]
        rw [if_neg]; · rfl
        simp only [Option.map_some, Option.some.injEq, Prod.mk.injEq]
        simp only [Bool.or_eq_true, bne_iff_ne] at hc
        rintro ⟨a, b, c⟩
        rcases hc with (h | h) | h <;> exact h (Eq.symm ‹_›)
      refine (eq ▸ (kept.trans askRecompose_asked (set.isBound (by decide)))).congr fun e _ => ?_
      by_cases h : e = d
      · subst h; simp [asks]
      · simp [other e h, h]
    · rw [if_neg hc] at eq
      refine (eq ▸ kept).congr fun e _ => ?_
      by_cases h : e = d
      · subst h
        rw [eq]; simp only [lanternAsk, got, hl]
        rw [if_pos]
        simp only [Bool.or_eq_true, bne_iff_ne, not_or, Decidable.not_not] at hc
        simp [hc.1.1, hc.1.2, hc.2]
      · rw [other e h]

/-- Changes of the lantern records of a list of displays ask of each changed one's display, once (R55). -/
theorem alterEach_asked {f : Lantern → Lantern} {l : List Nat} {s : State} (hl : l.Nodup) :
    RecompositionAsked (lanternAsk s (each l (alterLantern f) s)) s (each l (alterLantern f) s) := by
  induction l generalizing s with
  | nil => exact (RecompositionAsked.of_same rfl).congr fun e _ => by simp [lanternAsk]
  | cons a l ih =>
    obtain ⟨ha, hl⟩ := List.nodup_cons.mp hl
    have stays : ∀ (m : List Nat) (u : State), a ∉ m → (each m (alterLantern f) u).lantern a = u.lantern a := by
      intro m
      induction m with
      | nil => intro u _; rfl
      | cons b m ihm =>
        intro u h
        rw [each_cons, ihm _ (fun k => h (List.mem_cons_of_mem _ k)),
          alterLantern_other (fun k => h (by rw [k]; exact List.mem_cons_self))]
    refine (alterLantern_asked.trans (ih hl) (OnlyIn.isBound alterLantern_only (by decide))).congr fun e _ => ?_
    rw [each_cons]
    by_cases h : e = a
    · subst h
      have := stays l (alterLantern f e s) ha
      simp only [lanternAsk, this, if_true, Option.or_none]
    · simp only [lanternAsk, alterLantern_other h, if_true, Option.none_or]

/-- Changes of every lantern record that satisfies a predicate (R55). -/
theorem alterLanterns_asked {p : Lantern → Bool} {f : Lantern → Lantern} {s : State} :
    RecompositionAsked (lanternAsk s (alterLanterns p f s)) s (alterLanterns p f s) :=
  alterEach_asked (twhere_nodup _ _)

end Sys2Proof.Machine
end

