-- ==== Sys2Proof/Laws/Shared.lean ====
section
/-! SUPPORT. What a committed session, a recomposition and a discarded outcome leave, and what an offer follows from,
said once. -/

namespace Sys2Proof.Machine

/-- A commit changes of the Destination Request Unit its session alone (R66, R67). -/
theorem commitSession_drq {n : Nat} {new : Session} {s : State} :
    (commitSession n new s).drq = (s.setSession n new).drq := by
  have h : OnlyIn [.mir, .cmp] (s.setSession n new) (commitSession n new s) := by
    unfold commitSession
    exact OnlyIn.onlyIf
      (OnlyIn.onlyIf OnlyIn.refl fun u => OnlyIn.mono markDirty_only (by decide))
      fun u => OnlyIn.mono askRecompose_only (by decide)
  exact h .drq (by decide)

/-- The committed session is the new one. -/
theorem commitSession_session {n : Nat} {new : Session} {s : State} (h : n < 128) :
    (commitSession n new s).session n = new := by
  show tget (commitSession n new s).drq.sessions n _ = new
  rw [commitSession_drq]
  show tget (tset s.drq.sessions n new) n _ = new
  rw [tget_tset]
  simp [h]

/-- Every other session stands. -/
theorem commitSession_other {n m : Nat} {new : Session} {s : State} (h : m ≠ n) :
    (commitSession n new s).session m = s.session m := by
  show tget (commitSession n new s).drq.sessions m _ = tget s.drq.sessions m _
  rw [commitSession_drq]
  show tget (tset s.drq.sessions n new) m _ = _
  rw [tget_tset]
  simp [Ne.symm h]

/-- A recomposition leaves the Content Store and the mirror as its lookup does (R11, R124). -/
theorem recomposeDisplay_store {why : Ask} {d : Nat} {s : State} :
    OnlyIn [.cmp, .stc] (resolvePlan d s).1 (recomposeDisplay why d s) := by
  unfold recomposeDisplay
  exact OnlyIn.onlyIf (OnlyIn.mono State.setComp_only (by decide))
    fun u => OnlyIn.mono markUrgent_only (by decide)

/-- A plan completed from an item's availability leaves what the item's lookup leaves (R13). -/
theorem completePlan_state {item : Nat} {p : Plan} {s : State} :
    (completePlan item p s).1 = if item < 4088 then (lookupItem item false s).1 else s := by
  unfold completePlan fetched
  by_cases h : item < 4088 <;> simp [h]

/-- Case 2 of R11 leaves what its item's lookup leaves (R14). -/
theorem resolveEvacuate_state {item : Nat} {p : Plan} {s : State} :
    (resolveEvacuate item p s).1 = if item < 4088 then (lookupItem item false s).1 else s := by
  unfold resolveEvacuate fetched
  by_cases h : item < 4088 <;> simp [h]

/-- The outcome of a transaction whose panel left the schedule changes the line and the sweep of its string, and
what the string then does of itself (R152). -/
theorem takeOutcome_left {k : Nat} {v : Visit} {o : VisitOutcome} {s : State} (h : v.stayed = false) :
    OnlyIn (.stc :: offerBlocks) s (takeOutcome k v o s) := by
  unfold takeOutcome
  simp only [h, Bool.false_eq_true, if_false]
  exact OnlyIn.after settleString_only (by decide)
    (OnlyIn.onlyIf (OnlyIn.mono alterString_only (by decide))
      fun u => OnlyIn.mono alterString_only (by decide))

theorem SameEvents.trans {s t u : State} (h : SameEvents s t) (k : SameEvents t u) : SameEvents s u :=
  ⟨k.1.trans h.1, k.2.trans h.2⟩

/-- What keeps off the events and CAUSE keeps them. -/
theorem OnlyIn.sameEvents {bs : List Block} {s t : State} (h : OnlyIn bs s t) (he : Block.eru ∉ bs)
    (hc : Block.cause ∉ bs) : SameEvents s t := ⟨h .eru he, h .cause hc⟩

/-- A counted refusal reads and moves the events and CAUSE by them alone (R93). -/
theorem countRefusal_events {r : Nat} {s t : State} (h : SameEvents s t) :
    SameEvents (countRefusal r s) (countRefusal r t) := by
  obtain ⟨he, hc⟩ := h
  have eru : ∀ w : State, (countRefusal r w).eru = (w.setRoute r { w.route r with
      dropped := satAdd16 (w.route r).dropped, droppedTotal := satAdd16 (w.route r).droppedTotal }).eru :=
    fun w => setCause_only.after (bs := [.cause, .mir]) (by decide) (markDirty_only.mono (by decide))
      .eru (by decide)
  have cause : ∀ w : State, (countRefusal r w).cause = w.cause ||| BitVec.ofNat 15 (2 ^ 8) := by
    intro w; unfold countRefusal markDirty; dsimp only; split <;> rfl
  constructor
  · rw [eru, eru]; simp only [State.setRoute, State.route, State.withEru, he]
  · rw [cause, cause, hc]

/-- What an offer does to the events and to CAUSE, and the route it finds, follow from the device record, the events
and CAUSE alone (R87, R90, R91, R93). -/
theorem offerVia_events {k : Nat} {e : Event} {s t : State} (hd : t.dev = s.dev) (h : SameEvents s t) :
    SameEvents (offerVia k e s).1 (offerVia k e t).1 ∧ (offerVia k e t).2 = (offerVia k e s).2 := by
  have offers : t.routesOffers = s.routesOffers := by simp only [State.routesOffers, State.formsZones, hd]
  have entry : ∀ j, t.entry j = s.entry j := fun j => by simp only [State.entry, h.1]
  have route : ∀ r, t.route r = s.route r := fun r => by simp only [State.route, h.1]
  have takes : ∀ r, t.routeTakes r = s.routeTakes r := fun r => by simp only [State.routeTakes, route]
  have choice : ∀ x, t.rotateChoice x = s.rotateChoice x := fun x => by
    simp only [State.rotateChoice, takes]
  have accept : ∀ (r : Nat) (u v : State), SameEvents u v →
      SameEvents (acceptEvent r e u) (acceptEvent r e v) := fun r u v k => by
    refine ⟨?_, k.2⟩
    simp only [acceptEvent, State.setRoute, State.route, State.withEru, k.1]
  unfold offerVia
  simp only [offers, entry, takes, choice]
  split
  · exact ⟨h, rfl⟩
  · split
    · exact ⟨h, rfl⟩
    · split
      · exact ⟨accept _ _ _ h, rfl⟩
      · exact ⟨countRefusal_events h, rfl⟩
    · split
      · refine ⟨accept _ _ _ ⟨?_, h.2⟩, rfl⟩
        simp only [State.setEntry, State.withEru, h.1]
      · exact ⟨countRefusal_events h, rfl⟩

/-- An offer of a class follows from the device record, the events and CAUSE alone (R88). -/
theorem offerClass_events {kind : EventKind} {source : Nat} {payload : List Byte} {s t : State}
    (hd : t.dev = s.dev) (h : SameEvents s t) :
    SameEvents (offerClass kind source payload s) (offerClass kind source payload t) := by
  unfold offerClass
  rw [hd]
  exact (offerVia_events hd h).1

end Sys2Proof.Machine
end

