-- ==== Sys2Proof/Laws/Told.lean ====
section
/-! SUPPORT. The STRING_STATE that each change of a string's state offers (R139), said once for each operation that
makes one, and the operations that offer nothing. -/

namespace Sys2Proof.Machine

variable {k : Nat} {s t : State}

/-! ## String records and their changes -/

/-- A string record after its replacement. -/
theorem string_setString {x : PanelString} (hk : k < 16) : (s.setString k x).string k = x := by
  show tget (tset s.stc.strings k x) k _ = _
  rw [tget_tset]; simp [hk]

/-- A string record after a change. -/
theorem string_alterString {f : PanelString → PanelString} (hk : k < 16) :
    (alterString k f s).string k = f (s.string k) := string_setString hk

/-- What keeps the String Controllers keeps their string records. -/
theorem string_same {bs : List Block} (h : OnlyIn bs s t) (hs : Block.stc ∉ bs) :
    t.string k = s.string k := by
  have e : t.stc = s.stc := h .stc hs
  show tget t.stc.strings k _ = tget s.stc.strings k _
  rw [e]

/-- A mark keeps the string records. -/
theorem string_markDirty {r : MirrorRecord} : (markDirty r s).string k = s.string k :=
  string_same markDirty_only (by decide)

/-- A change of a string record offers nothing. -/
theorem alterString_events {f : PanelString → PanelString} : SameEvents s (alterString k f s) :=
  alterString_only.sameEvents (by decide) (by decide)

/-! ## STRING_STATE -/

/-- The STRING_STATE of a change follows from the device record, the events and CAUSE alone. -/
theorem stringTold_events {old new : StringState} {faults : Nat} (hd : t.dev = s.dev)
    (h : SameEvents s t) : SameEvents (stringTold k old new faults s) (stringTold k old new faults t) := by
  unfold stringTold
  split
  · exact h
  · exact offerClass_events hd h

/-- A change of state is offered once, the fault count with it (R139). -/
theorem enterString_told {new : StringState} (h : (s.string k).state ≠ new) :
    SameEvents (stringTold k (s.string k).state new (s.string k).faults s) (enterString k new s) := by
  unfold stringTold enterString
  rw [if_neg h.symm]
  have set : SameEvents s (s.setString k { s.string k with state := new }) := ⟨rfl, rfl⟩
  exact (offerClass_events (s := s) (t := s.setString k { s.string k with state := new }) rfl set).trans
    (markDirty_only.sameEvents (by decide) (by decide))

/-- The record of a string that has entered a state. -/
theorem enterString_string {new : StringState} (hk : k < 16) :
    (enterString k new s).string k = { s.string k with state := new } := by
  have h : OnlyIn offerBlocks (s.setString k { s.string k with state := new }) (enterString k new s) :=
    markDirty_only.after (by decide) offerClass_only
  rw [string_same h (by decide), string_setString hk]

/-- A state entered after a change of the record that keeps the state (R139). -/
theorem enterString_alterString_told {new : StringState} {f : PanelString → PanelString} (hk : k < 16)
    (keep : (f (s.string k)).state = (s.string k).state) (h : (s.string k).state ≠ new) :
    SameEvents (stringTold k (s.string k).state new (f (s.string k)).faults s)
      (enterString k new (alterString k f s)) := by
  have e : (alterString k f s).string k = f (s.string k) := string_alterString hk
  have told := enterString_told (k := k) (s := alterString k f s) (new := new) (by rw [e, keep]; exact h)
  rw [e, keep] at told
  exact (stringTold_events (s := s) (t := alterString k f s) rfl alterString_events).trans told

/-- Entry to PARKING (R139, R143). -/
theorem enterParking_told (hk : k < 16) (h : (s.string k).state ≠ .parking) :
    SameEvents (stringTold k (s.string k).state ((enterParking k s).string k).state
      ((enterParking k s).string k).faults s) (enterParking k s) := by
  have told := enterString_alterString_told (k := k) (s := s) (new := .parking)
    (f := fun x => { x with settle := none, wake := none, sweepTimer := none, parkOwed := false })
    hk rfl h
  unfold enterParking beginBroadcast
  rw [string_alterString hk, enterString_string hk, string_alterString hk]
  exact told.trans alterString_events

/-! ## Sweeps and passes -/

/-- The end of a sweep keeps the string's state and fault count (R147). -/
theorem closeSweep_keeps (hk : k < 16) : ((closeSweep k s).string k).state = (s.string k).state
    ∧ ((closeSweep k s).string k).faults = (s.string k).faults := by
  unfold closeSweep
  rw [string_markDirty, string_alterString hk]
  exact ⟨rfl, rfl⟩

/-- The start of a sweep keeps the string's state and fault count (R146). -/
theorem startSweep_keeps (hk : k < 16) : ((startSweep k s).string k).state = (s.string k).state
    ∧ ((startSweep k s).string k).faults = (s.string k).faults := by
  unfold startSweep
  dsimp only
  split
  · obtain ⟨a, b⟩ := closeSweep_keeps (s := s.setString k _) hk
    rw [a, b, string_setString hk]
    exact ⟨rfl, rfl⟩
  · rw [string_setString hk]
    exact ⟨rfl, rfl⟩

theorem endSweep_keeps (hk : k < 16) : ((endSweep k s).string k).state = (s.string k).state
    ∧ ((endSweep k s).string k).faults = (s.string k).faults := by
  obtain ⟨a, b⟩ := closeSweep_keeps (s := s) hk
  unfold endSweep onlyIf
  dsimp only
  split
  · obtain ⟨c, d⟩ := startSweep_keeps (s := closeSweep k s) hk
    exact ⟨c.trans a, d.trans b⟩
  · exact ⟨a, b⟩

/-- A pass that completes (R139, R141). -/
theorem completeEnumeration_told (hk : k < 16) (h : (s.string k).state = .enumerating) :
    SameEvents (stringTold k (s.string k).state ((completeEnumeration k s).string k).state
      ((completeEnumeration k s).string k).faults s) (completeEnumeration k s) := by
  unfold completeEnumeration
  obtain ⟨a, b⟩ := startSweep_keeps (k := k) (s := enterString k .running <|
    alterString k (fun x => { x with faults := 0, sweepNumber := 0, syncPending := true }) s) hk
  rw [a, b, enterString_string hk, string_alterString hk]
  exact (enterString_alterString_told hk rfl (by rw [h]; decide)).trans
    (startSweep_only.sameEvents (by decide) (by decide))

/-- Slots passed over and a sweep ended keep the string's state and fault count (R147, R148). -/
theorem endIfDone_keeps (hk : k < 16) :
    ((endIfDone k (skipSlots k s)).string k).state = (s.string k).state
    ∧ ((endIfDone k (skipSlots k s)).string k).faults = (s.string k).faults := by
  have skip : ((skipSlots k s).string k).state = (s.string k).state
      ∧ ((skipSlots k s).string k).faults = (s.string k).faults := by
    unfold skipSlots
    dsimp only
    split
    · split
      · rw [string_setString hk]; exact ⟨rfl, rfl⟩
      · exact ⟨rfl, rfl⟩
    · exact ⟨rfl, rfl⟩
  have fin : ∀ w : State, ((endIfDone k w).string k).state = (w.string k).state
      ∧ ((endIfDone k w).string k).faults = (w.string k).faults := by
    intro w
    unfold endIfDone
    split
    · split
      · exact ⟨rfl, rfl⟩
      · exact endSweep_keeps hk
    · exact ⟨rfl, rfl⟩
  exact ⟨(fin _).1.trans skip.1, (fin _).2.trans skip.2⟩

/-- What a string does of itself moves its state at most once, and offers its STRING_STATE then (R139). -/
theorem settleString_told (hk : k < 16) :
    SameEvents (stringTold k (s.string k).state ((settleString k s).string k).state
      ((settleString k s).string k).faults s) (settleString k s) := by
  let u := endIfDone k (skipSlots k s)
  have only : OnlyIn [.mir, .stc] s u := endIfDone_only.after (by decide) (skipSlots_only.mono (by decide))
  have dev : u.dev = s.dev := only .dev (by decide)
  have same : SameEvents s u := only.sameEvents (by decide) (by decide)
  have state : (u.string k).state = (s.string k).state := (endIfDone_keeps hk).1
  have stay : SameEvents (stringTold k (s.string k).state (u.string k).state (u.string k).faults s) u := by
    rw [state]; unfold stringTold; rw [if_pos rfl]; exact same
  have go : ∀ w : State,
      SameEvents (stringTold k (u.string k).state (w.string k).state (w.string k).faults u) w →
      SameEvents (stringTold k (s.string k).state (w.string k).state (w.string k).faults s) w := by
    intro w h
    rw [state] at h
    exact (stringTold_events dev same).trans h
  have park : (u.string k).state ≠ .parking →
      SameEvents (stringTold k (s.string k).state ((enterParking k u).string k).state
        ((enterParking k u).string k).faults s) (enterParking k u) :=
    fun h => go _ (enterParking_told hk h)
  show SameEvents (stringTold k (s.string k).state ((settleString k s).string k).state _ s) _
  unfold settleString
  change SameEvents (stringTold k _ (State.string (if (u.string k).line == .free then _ else u) k).state
    (State.string (if (u.string k).line == .free then _ else u) k).faults s)
    (if (u.string k).line == .free then _ else u)
  split
  · split
    · next h =>
      split
      · exact park (by rw [h]; decide)
      · exact stay
    · next h =>
      split
      · exact park (by rw [h]; decide)
      · split
        · exact go _ (completeEnumeration_told hk h)
        · exact stay
    all_goals exact stay
  · exact stay

/-! ## The run of a string -/

/-- A panel's return, reported to its session, offers nothing (R81). -/
theorem reportOnline_events {address : Nat} : SameEvents s (reportPanel k address false s) := by
  have h : OnlyIn [.mir, .cmp, .drq] s (reportPanel k address false s) := by
    unfold reportPanel reportOffline
    split
    · exact OnlyIn.ite (OnlyIn.each OnlyIn.refl fun _ _ => clearBlockCause_only) OnlyIn.refl
    · exact OnlyIn.refl
  exact h.sameEvents (by decide) (by decide)

/-- The panels of a schedule set UNSEEN offer nothing (R154). -/
theorem unseeSchedule_events : SameEvents s (unseeSchedule k s) := by
  refine each_keeps (SameEvents s) _ _ ?_ s ⟨rfl, rfl⟩
  intro a u h
  let v := u.setPanel (panelIndex k a) Panel.initial
  let w := onlyIf ((u.panel (panelIndex k a)).health == .offline) (reportPanel k a false) v
  have back : SameEvents v w := by
    show SameEvents v (onlyIf _ _ v)
    unfold onlyIf
    split
    · exact reportOnline_events
    · exact ⟨rfl, rfl⟩
  have mark : SameEvents w (markPanel (panelIndex k a) (u.panel (panelIndex k a)) w) :=
    markPanel_only.sameEvents (by decide) (by decide)
  exact (h.trans ⟨rfl, rfl⟩).trans (back.trans mark)

/-- A string that powers up (R139, R140). -/
theorem powerUp_told (hk : k < 16) (h : (s.string k).state ≠ .powering) :
    SameEvents (stringTold k (s.string k).state .powering (s.string k).faults s) (powerUp k s) := by
  have told := enterString_alterString_told (k := k) (s := s) (new := .powering)
    (f := fun x => { x with rate := x.settings.rateCode, driver := true, supply := true,
                            settle := some x.settings.settleTime, hold := none }) hk rfl h
  exact told.trans unseeSchedule_events

/-- A string enters OFF, and with an effective run of 1 leaves it at once (R139, R143). -/
theorem enterOff_told (hk : k < 16) (h : (s.string k).state ≠ .off) :
    SameEvents
      (if s.effectiveRun k then
        stringTold k .off .powering 0 (stringTold k (s.string k).state .off 0 s)
      else stringTold k (s.string k).state .off 0 s) (enterOff k s) := by
  let t := enterString k .off (alterString k (fun x => { x with faults := 0 }) s)
  have told : SameEvents (stringTold k (s.string k).state .off 0 s) t :=
    enterString_alterString_told hk rfl h
  have str : t.string k = { s.string k with faults := 0, state := .off } := by
    show (enterString k .off (alterString k _ s)).string k = _
    rw [enterString_string hk, string_alterString hk]
  have dev : t.dev = s.dev := enterString_only (s := alterString k _ s) .dev (by decide)
  have dev' : t.dev = (stringTold k (s.string k).state .off 0 s).dev := by
    rw [dev]; unfold stringTold
    split
    · rfl
    · exact (offerClass_only (s := s) .dev (by decide)).symm
  have run : t.effectiveRun k = s.effectiveRun k := by
    simp only [State.effectiveRun, State.isRunning, str, dev]
  show SameEvents _ (onlyIf (t.effectiveRun k) (powerUp k) t)
  rw [run]
  unfold onlyIf
  split
  · have up := powerUp_told (k := k) (s := t) hk (by rw [str]; exact fun h => nomatch h)
    rw [str] at up
    exact (stringTold_events dev' told).trans up
  · exact told

end Sys2Proof.Machine
end

