-- ==== Sys2Proof/Laws/Freed.lean ====
section
/-! SUPPORT. The string record that each operation of a free line leaves (R141, R143, R146 to R148), and what a string
does of itself there, said once. -/

namespace Sys2Proof.Machine

variable {k : Nat} {s t : State}

/-- The record of a string whose sweep has been counted (R147). -/
theorem closeSweep_string (hk : k < 16) : (closeSweep k s).string k = (s.string k).swept := by
  unfold closeSweep
  rw [string_markDirty, string_alterString hk]; rfl

/-- Panels stand where the block of the strings keeps them. -/
theorem panelOffline_same (h : t.stc.panels = s.stc.panels) : t.panelOffline k = s.panelOffline k := by
  funext a; simp only [State.panelOffline, State.panel, h]

/-- The end of a sweep keeps the panels. -/
theorem closeSweep_panels : (closeSweep k s).stc.panels = s.stc.panels := by
  have h : (closeSweep k s).stc = (alterString k _ s).stc := markDirty_only .stc (by decide)
  rw [h]; rfl

/-- The record of a string whose sweep has started (R146, R147). -/
theorem startSweep_string (hk : k < 16) :
    (startSweep k s).string k = (s.string k).sweeping (s.panelOffline k) := by
  unfold startSweep PanelString.sweeping State.sweepSlots
  dsimp only
  simp only [List.isEmpty_iff, State.panelOffline]
  split
  · next h => rw [closeSweep_string hk, string_setString hk]; exact (if_pos h).symm
  · next h => rw [string_setString hk]; exact (if_neg h).symm

/-- The record of a string whose sweep has ended, and the one owed has started (R147). -/
theorem endSweep_string (hk : k < 16) : (endSweep k s).string k =
    if (s.string k).state = .running ∧ (s.string k).nextOwed = true then
      (s.string k).swept.sweeping (s.panelOffline k)
    else (s.string k).swept := by
  unfold endSweep onlyIf
  dsimp only
  rw [closeSweep_string hk]
  simp only [PanelString.swept, Bool.and_eq_true, beq_iff_eq]
  split
  · rw [startSweep_string hk, closeSweep_string hk, panelOffline_same closeSweep_panels]; rfl
  · rw [closeSweep_string hk]; rfl

/-- The record of a string that has entered PARKING (R143). -/
theorem enterParking_string (hk : k < 16) : (enterParking k s).string k = (s.string k).parked := by
  unfold enterParking beginBroadcast
  rw [string_alterString hk, enterString_string hk, string_alterString hk]; rfl

/-- A change of state keeps the panels (R139). -/
theorem enterString_panels {new : StringState} : (enterString k new s).stc.panels = s.stc.panels := by
  have h : OnlyIn offerBlocks (s.setString k { s.string k with state := new }) (enterString k new s) :=
    markDirty_only.after (by decide) offerClass_only
  rw [h .stc (by decide)]; rfl

/-- The record of a string whose pass has completed (R141). -/
theorem completeEnumeration_string (hk : k < 16) : (completeEnumeration k s).string k =
    ({ s.string k with state := .running, faults := 0, sweepNumber := 0, syncPending := true }
      : PanelString).sweeping (s.panelOffline k) := by
  unfold completeEnumeration
  rw [startSweep_string hk, enterString_string hk, string_alterString hk,
    panelOffline_same (enterString_panels.trans rfl)]
  rfl

/-- Slots passed over: the READY slots of OFFLINE panels that stand before any other READY slot (R148). -/
theorem skipOffline_get (off : Nat → Bool) (slots : List SweepSlot) (i : Nat) (l : SweepSlot)
    (h : slots[i]? = some l) :
    let passed (m : SweepSlot) : Prop := m.status = .ready ∧ off m.address = true
    let last : Prop := ∀ (j : Nat) (m : SweepSlot),
      j < i → slots[j]? = some m → m.status = .ready → passed m
    (passed l ∧ last → (skipOffline off slots)[i]? = some { l with status := .skipped })
    ∧ (¬ (passed l ∧ last) → (skipOffline off slots)[i]? = some l) := by
  induction slots generalizing i with
  | nil => simp at h
  | cons x rest ih =>
    cases i with
    | zero =>
      obtain rfl : x = l := by simpa using h
      by_cases hr : x.status = .ready <;> by_cases ho : off x.address = true <;> simp [skipOffline, hr, ho]
    | succ i =>
      have hi : rest[i]? = some l := by simpa using h
      obtain ⟨a, b⟩ := ih i hi
      dsimp only
      by_cases hr : x.status = .ready
      · by_cases ho : off x.address = true
        · simp only [skipOffline, hr, ho, beq_self_eq_true, if_true, List.getElem?_cons_succ]
          constructor
          · rintro ⟨p, q⟩
            exact a ⟨p, fun j m hj hm => q (j + 1) m (by omega) (by simpa using hm)⟩
          · intro n
            refine b fun ⟨p, q⟩ => n ⟨p, fun j m hj hm hs => ?_⟩
            cases j with
            | zero => obtain rfl : x = m := by simpa using hm
                      exact ⟨hr, ho⟩
            | succ j => exact q j m (by omega) (by simpa using hm) hs
        · simp only [skipOffline, hr, ho, beq_self_eq_true, if_true]
          constructor
          · rintro ⟨_, q⟩
            exact absurd (q 0 x (by omega) rfl hr).2 ho
          · intro _; simpa using hi
      · have hr' : (x.status == SlotStatus.ready) = false := by simpa using hr
        simp only [skipOffline, hr', Bool.false_eq_true, if_false, List.getElem?_cons_succ]
        constructor
        · rintro ⟨p, q⟩
          exact a ⟨p, fun j m hj hm => q (j + 1) m (by omega) (by simpa using hm)⟩
        · intro n
          refine b fun ⟨p, q⟩ => n ⟨p, fun j m hj hm hs => ?_⟩
          cases j with
          | zero => obtain rfl : x = m := by simpa using hm
                    exact absurd hs hr
          | succ j => exact q j m (by omega) (by simpa using hm) hs

/-- No slot is lost where slots are passed over. -/
theorem skipOffline_length (off : Nat → Bool) (slots : List SweepSlot) :
    (skipOffline off slots).length = slots.length := by
  induction slots with
  | nil => rfl
  | cons x rest ih =>
    unfold skipOffline
    by_cases h : (x.status == SlotStatus.ready) = true <;> by_cases o : off x.address = true <;>
      simp [h, o, ih]

/-- What is left to visit once slots have been passed over (R147, R148). -/
theorem skipOffline_going (off : Nat → Bool) (slots : List SweepSlot) :
    (skipOffline off slots).any (fun l => l.status == .ready || l.status == .active)
      = slots.any fun l => l.status == .active || l.status == .ready && !off l.address := by
  induction slots with
  | nil => rfl
  | cons x rest ih =>
    unfold skipOffline
    cases h : x.status <;> cases o : off x.address <;> simp [h, o, ih] <;> rfl

/-- Slots passed over keep the panels. -/
theorem skipSlots_panels : (skipSlots k s).stc.panels = s.stc.panels := by
  unfold skipSlots; dsimp only; split
  · split <;> rfl
  · rfl

/-- What a string does of itself keeps the panels. -/
theorem settleString_panels : (settleString k s).stc.panels = s.stc.panels := by
  have start : ∀ u, (startSweep k u).stc.panels = u.stc.panels := fun u => by
    unfold startSweep; dsimp only; split
    · exact closeSweep_panels
    · rfl
  have done : (endIfDone k (skipSlots k s)).stc.panels = s.stc.panels := by
    have skip : (skipSlots k s).stc.panels = s.stc.panels := skipSlots_panels
    unfold endIfDone; split
    · split
      · exact skip
      · unfold endSweep onlyIf; dsimp only; split
        · rw [start, closeSweep_panels, skip]
        · rw [closeSweep_panels, skip]
    · exact skip
  have park : ∀ u, (enterParking k u).stc.panels = u.stc.panels := fun u =>
    (show _ = (enterString k .parking _).stc.panels from rfl).trans enterString_panels
  unfold settleString; dsimp only
  split
  · split
    · split
      · rw [park, done]
      · exact done
    · split
      · rw [park, done]
      · split
        · unfold completeEnumeration; rw [start, enterString_panels]; exact done
        · exact done
    all_goals exact done
  · exact done

/-- A sweep once slots have been passed over at a free line (R148). -/
def State.passedOver (s : State) (k : Nat) (w : Sweep) : Sweep :=
  if (s.string k).takesSlots && !w.probe then
    { w with slots := skipOffline (s.panelOffline k) w.slots }
  else w

/-- The record after slots have been passed over at a free line (R148). -/
theorem skipSlots_string (hk : k < 16) {w : Sweep} (hw : (s.string k).sweep = some w) :
    (skipSlots k s).string k = { s.string k with sweep := some (s.passedOver k w) } := by
  unfold skipSlots State.passedOver
  dsimp only
  rw [hw]
  dsimp only
  split
  · rw [string_setString hk]
  · rw [← hw]

/-- What a string does of itself at a free line (R141, R143, R147, R148). -/
theorem settleString_freed (hk : k < 16) (hl : (s.string k).line = .free) :
    LineFreed k (s.string k) (settleString k s) := by
  have hp : ∀ a, (((settleString k s).panel (k * 32 + a)).health == Health.offline)
      = s.panelOffline k a := by
    intro a; simp only [State.panelOffline, State.panel, settleString_panels]; rfl
  unfold LineFreed
  simp only [hp]
  have tail : ∀ v : State, (v.string k).line = .free → endIfDone k (skipSlots k s) = v →
      settleString k s =
        match (v.string k).state with
        | .draining => if (v.string k).sweep.isNone then enterParking k v else v
        | .enumerating =>
          if (v.string k).parkOwed then enterParking k v
          else if (v.string k).nextOfPass.isNone then completeEnumeration k v
          else v
        | .off | .powering | .waking | .running | .parking | .fault | .faultLocked => v := by
    intro v hv e
    unfold settleString
    dsimp only
    rw [e, hv]
    exact if_pos rfl
  have takes : ((s.string k).state = .draining
      ∨ (s.string k).state = .running ∧ (s.string k).syncPending = false ∧ (s.string k).urgent = [])
      ↔ (s.string k).takesSlots = true := by
    simp [PanelString.takesSlots, hl, List.isEmpty_iff, and_assoc]
  simp only [takes]
  have gone : ∀ w, (s.string k).sweep = some w →
      ((∃ l ∈ w.slots, l.status = .active ∨ l.status = .ready ∧
        ¬ ((s.string k).takesSlots = true ∧ w.probe = false ∧ l.status = .ready
          ∧ s.panelOffline k l.address = true))
      ↔ (s.passedOver k w).going = true) := by
    intro w hw
    unfold Sweep.going State.passedOver
    by_cases c : ((s.string k).takesSlots && !w.probe) = true
    · rw [if_pos c]; dsimp only; rw [skipOffline_going]
      simp only [Bool.and_eq_true, Bool.not_eq_true'] at c
      simp only [List.any_eq_true, Bool.or_eq_true, beq_iff_eq, Bool.and_eq_true, c.1, c.2, true_and,
        Bool.not_eq_true']
      constructor <;> rintro ⟨l, hm, h | ⟨h, n⟩⟩
      · exact ⟨l, hm, Or.inl h⟩
      · exact ⟨l, hm, Or.inr ⟨h, by cases o : s.panelOffline k l.address; rfl; exact absurd ⟨h, o⟩ n⟩⟩
      · exact ⟨l, hm, Or.inl h⟩
      · exact ⟨l, hm, Or.inr ⟨h, fun x => by rw [x.2] at n; cases n⟩⟩
    · rw [if_neg c]
      simp only [List.any_eq_true, Bool.or_eq_true, beq_iff_eq]
      constructor <;> rintro ⟨l, hm, h⟩
      · exact ⟨l, hm, h.symm.imp (·.1) id⟩
      · refine ⟨l, hm, h.symm.imp id fun h => ⟨h, fun x => c ?_⟩⟩
        simp [x.1, x.2.1]
  refine ⟨?_, ?_, ?_⟩
  · intro w hw g ne
    have u := skipSlots_string hk hw
    rw [gone w hw] at g
    have e : endIfDone k (skipSlots k s) = skipSlots k s := by
      unfold endIfDone; rw [u]; dsimp only; rw [if_pos g]
    have keep : settleString k s = skipSlots k s := by
      rw [tail _ (by rw [u]; exact hl) e, u]; dsimp only
      split
      · rfl
      · next h => exact absurd h ne
      all_goals rfl
    rw [keep, u]
    refine ⟨(s.passedOver k w).slots, ?_, ?_, fun i l hi => ?_⟩
    · unfold State.passedOver; split <;> rfl
    · unfold State.passedOver; split
      · exact skipOffline_length _ _
      · rfl
    · unfold State.passedOver
      by_cases c : ((s.string k).takesSlots && !w.probe) = true
      · rw [if_pos c]
        simp only [Bool.and_eq_true, Bool.not_eq_true'] at c
        simpa only [c.1, c.2, true_and] using skipOffline_get (s.panelOffline k) w.slots i l hi
      · rw [if_neg c]
        have n : ¬ ((s.string k).takesSlots = true ∧ w.probe = false) := by simpa using c
        exact ⟨fun x => absurd ⟨x.1.1, x.1.2.1⟩ n, fun _ => hi⟩
  · intro w hw g
    have u := skipSlots_string hk hw
    rw [gone w hw] at g
    have e : endIfDone k (skipSlots k s) = endSweep k (skipSlots k s) := by
      unfold endIfDone; rw [u]; dsimp only; rw [if_neg g]
    have off : (skipSlots k s).panelOffline k = s.panelOffline k := panelOffline_same skipSlots_panels
    have r : (endSweep k (skipSlots k s)).string k =
        if (s.string k).state = .running ∧ (s.string k).nextOwed = true then
          (s.string k).swept.sweeping (s.panelOffline k) else (s.string k).swept := by
      rw [endSweep_string hk, u, off]; rfl
    have line : ∀ (f : Nat → Bool) (y : PanelString),
        (y.sweeping f).line = y.line ∧ (y.sweeping f).state = y.state := by
      intro f y; unfold PanelString.sweeping PanelString.swept; dsimp only; split <;> exact ⟨rfl, rfl⟩
    have hv : ((endSweep k (skipSlots k s)).string k).line = .free := by
      rw [r]; split
      · rw [(line _ _).1]; exact hl
      · exact hl
    have hs : ((endSweep k (skipSlots k s)).string k).state = (s.string k).state := by
      rw [r]; split
      · rw [(line _ _).2]; rfl
      · rfl
    have t := tail _ hv e
    rw [hs] at t
    refine ⟨?_, ?_, ?_⟩
    · intro h o; rw [t, h]; dsimp only; rw [r]; simp [o]
    · intro h o; rw [t, h]; dsimp only; rw [r]; simp [h, o]
    · intro h
      have r' : (endSweep k (skipSlots k s)).string k = (s.string k).swept := by rw [r]; simp [h]
      rw [t, h]; dsimp only; rw [r']
      simp only [PanelString.swept, Option.isNone_none, if_true]
      rw [enterParking_string hk, r']; rfl
  · intro hs
    have e : endIfDone k (skipSlots k s) = s := by
      have : skipSlots k s = s := by unfold skipSlots; dsimp only; rw [hs]
      rw [this]; unfold endIfDone; rw [hs]
    have g := tail s hl e
    refine ⟨?_, ?_, ?_, ?_, ?_⟩
    · intro h; rw [g, h]; simp only [hs, Option.isNone_none, if_true]; exact enterParking_string hk
    · intro h o; rw [g, h]; simp only [o, if_true]; exact enterParking_string hk
    · intro h o n
      rw [g, h]
      have : (s.string k).nextOfPass.isNone = true := by
        simp only [PanelString.nextOfPass, Option.isNone_iff_eq_none, List.find?_eq_none]
        intro a ha; have := n a ha; simp; omega
      simp only [o, this, Bool.false_eq_true, if_false, if_true]
      rw [completeEnumeration_string hk]
      dsimp only
      rw [o]
    · intro h o n
      rw [g, h]
      have : (s.string k).nextOfPass.isNone = false := by
        obtain ⟨a, ha, hv⟩ := n
        simp only [PanelString.nextOfPass, Option.isNone_eq_false_iff, List.find?_isSome]
        exact ⟨a, ha, by simpa using hv⟩
      simp only [o, this, Bool.false_eq_true, if_false]
    · intro a b
      rw [g]
      split <;> first | rfl | (exfalso; first | exact a ‹_› | exact b ‹_›)

end Sys2Proof.Machine
end

