-- ==== Sys2Proof/Laws/PerInstr.lean ====
section
/-! SUPPORT. The family NoWord: opcode_table.json gives no row any bits, so no word spells a command. -/

namespace Sys2Proof.Laws.NoWord

/-- No word of any length reads as the command. -/
def Statement (i : Instr) : Prop := ∀ nbits w, decodeTableWord nbits w ≠ some i

theorem powerOnReset : Statement .powerOnReset := fun _ _ h => nomatch h
theorem softReset (runBit : Bool) : Statement (.softReset runBit) := fun _ _ h => nomatch h
theorem run (runBit : Bool) : Statement (.run runBit) := fun _ _ h => nomatch h
theorem anchorLoWrite (value : Word32) : Statement (.anchorLoWrite value) := fun _ _ h => nomatch h
theorem anchorHiWrite (value : Word32) : Statement (.anchorHiWrite value) := fun _ _ h => nomatch h
theorem nudgeCells : Statement .nudgeCells := fun _ _ h => nomatch h
theorem nudgeAnswers : Statement .nudgeAnswers := fun _ _ h => nomatch h
theorem nudgeOverrides : Statement .nudgeOverrides := fun _ _ h => nomatch h
theorem nudgeLive : Statement .nudgeLive := fun _ _ h => nomatch h
theorem nudgeSupply : Statement .nudgeSupply := fun _ _ h => nomatch h
theorem nudgeFlush : Statement .nudgeFlush := fun _ _ h => nomatch h
theorem causeWrite (value : Word32) : Statement (.causeWrite value) := fun _ _ h => nomatch h
theorem causeMaskWrite (value : Word32) :
    Statement (.causeMaskWrite value) := fun _ _ h => nomatch h
theorem registerWriteOther (offset width : Nat) (value : Word32) :
    Statement (.registerWriteOther offset width value) := fun _ _ h => nomatch h
theorem stoppingEnd : Statement .stoppingEnd := fun _ _ h => nomatch h
theorem portGrant : Statement .portGrant := fun _ _ h => nomatch h
theorem headerRead (answer : BlockRead) : Statement (.headerRead answer) := fun _ _ h => nomatch h
theorem labelTableRead (answer : BlockRead) :
    Statement (.labelTableRead answer) := fun _ _ h => nomatch h
theorem groupCounterRead (answer : WordRead) :
    Statement (.groupCounterRead answer) := fun _ _ h => nomatch h
theorem cellTake (answer : TakeRead) : Statement (.cellTake answer) := fun _ _ h => nomatch h
theorem answerSeedRead (answer : WordRead) :
    Statement (.answerSeedRead answer) := fun _ _ h => nomatch h
theorem liveTake (answer : TakeRead) : Statement (.liveTake answer) := fun _ _ h => nomatch h
theorem supplyCountRead (answer : WordRead) :
    Statement (.supplyCountRead answer) := fun _ _ h => nomatch h
theorem scanIntervalExpiry : Statement .scanIntervalExpiry := fun _ _ h => nomatch h
theorem supplyScanRequest : Statement .supplyScanRequest := fun _ _ h => nomatch h
theorem mirrorWrite (ok : Bool) : Statement (.mirrorWrite ok) := fun _ _ h => nomatch h
theorem pageDraw (answer : Option (BitVec 64)) :
    Statement (.pageDraw answer) := fun _ _ h => nomatch h
theorem openWrite (ok : Bool) : Statement (.openWrite ok) := fun _ _ h => nomatch h
theorem recordWrite (ok : Bool) : Statement (.recordWrite ok) := fun _ _ h => nomatch h
theorem closeWrite (ok : Bool) : Statement (.closeWrite ok) := fun _ _ h => nomatch h
theorem flushAgeExpiry (route : Fin 8) : Statement (.flushAgeExpiry route) := fun _ _ h => nomatch h
theorem routeStopPoint (route : Fin 8) : Statement (.routeStopPoint route) := fun _ _ h => nomatch h
theorem presenceCheckExpiry : Statement .presenceCheckExpiry := fun _ _ h => nomatch h
theorem heartbeatRead (answer : WordRead) :
    Statement (.heartbeatRead answer) := fun _ _ h => nomatch h
theorem carTelegram (link : Fin 8) (chars : List LineChar) :
    Statement (.carTelegram link chars) := fun _ _ h => nomatch h
theorem carTelegramBroken (link : Fin 8) (char : LineChar) :
    Statement (.carTelegramBroken link char) := fun _ _ h => nomatch h
theorem carStaleExpiry (car : Fin 64) : Statement (.carStaleExpiry car) := fun _ _ h => nomatch h
theorem carLostExpiry (car : Fin 64) : Statement (.carLostExpiry car) := fun _ _ h => nomatch h
theorem lanternTimeExpiry (display : Fin 512) :
    Statement (.lanternTimeExpiry display) := fun _ _ h => nomatch h
theorem expectationExpiry (display : Fin 512) :
    Statement (.expectationExpiry display) := fun _ _ h => nomatch h
theorem entryTimeoutExpiry (slot : Fin 128) :
    Statement (.entryTimeoutExpiry slot) := fun _ _ h => nomatch h
theorem answerTimeoutExpiry (slot : Fin 128) :
    Statement (.answerTimeoutExpiry slot) := fun _ _ h => nomatch h
theorem holdTimeExpiry (slot : Fin 128) : Statement (.holdTimeExpiry slot) := fun _ _ h => nomatch h
theorem fireLine (line : Fin 4) : Statement (.fireLine line) := fun _ _ h => nomatch h
theorem recompose (display : Fin 512) : Statement (.recompose display) := fun _ _ h => nomatch h
theorem fill (answer : FillRead) : Statement (.fill answer) := fun _ _ h => nomatch h
theorem quarantineExpiry (item : Nat) : Statement (.quarantineExpiry item) := fun _ _ h => nomatch h
theorem supplyFault (string : Fin 16) : Statement (.supplyFault string) := fun _ _ h => nomatch h
theorem settleExpiry (string : Fin 16) : Statement (.settleExpiry string) := fun _ _ h => nomatch h
theorem wakeSent (string : Fin 16) : Statement (.wakeSent string) := fun _ _ h => nomatch h
theorem wakeTimeExpiry (string : Fin 16) :
    Statement (.wakeTimeExpiry string) := fun _ _ h => nomatch h
theorem sleepSent (string : Fin 16) : Statement (.sleepSent string) := fun _ _ h => nomatch h
theorem sync (string : Fin 16) : Statement (.sync string) := fun _ _ h => nomatch h
theorem showPlan (string : Fin 16) : Statement (.showPlan string) := fun _ _ h => nomatch h
theorem poll (string : Fin 16) : Statement (.poll string) := fun _ _ h => nomatch h
theorem enumerate (string : Fin 16) : Statement (.enumerate string) := fun _ _ h => nomatch h
theorem telegramSent (string : Fin 16) : Statement (.telegramSent string) := fun _ _ h => nomatch h
theorem panelReply (string : Fin 16) (chars : List LineChar) :
    Statement (.panelReply string chars) := fun _ _ h => nomatch h
theorem replyTimeout (string : Fin 16) : Statement (.replyTimeout string) := fun _ _ h => nomatch h
theorem sweepIntervalExpiry (string : Fin 16) :
    Statement (.sweepIntervalExpiry string) := fun _ _ h => nomatch h
theorem faultHoldExpiry (string : Fin 16) :
    Statement (.faultHoldExpiry string) := fun _ _ h => nomatch h
theorem cadenceTick (channel : Fin 16) : Statement (.cadenceTick channel) := fun _ _ h => nomatch h
theorem cadenceUnderflow (channel : Fin 16) :
    Statement (.cadenceUnderflow channel) := fun _ _ h => nomatch h
theorem firePinChange (line : Fin 4) (asserted : Bool) :
    Statement (.firePinChange line asserted) := fun _ _ h => nomatch h

end Sys2Proof.Laws.NoWord
end

