-- ==== Sys2Proof/Laws/Rest.lean ====
section
/-! SUPPORT. What an entry to IDLE and a failed step of LOADING leave, said once. -/

namespace Sys2Proof.Machine

/-- A slot after its replacement, at any number: beyond the table it reads as an EMPTY slot. -/
theorem slot_setSlot (s : State) (i j : Nat) (x : Slot) :
    (s.setSlot i x).slot j = if i = j ∧ i < 64 then x else s.slot j := by
  show tget (tset s.cst.slots i x) j Slot.initial = _
  rw [tget_tset]; rfl

/-- What one entry's drop makes of its slot (R137). -/
def dropSlot (e : FillEntry) (t : State) : State :=
  t.setSlot e.slot (if e.refill then { t.slot e.slot with refetch := false } else Slot.initial)

theorem dropSlot_other (e : FillEntry) (t : State) (i : Nat) (h : e.slot ≠ i) :
    (dropSlot e t).slot i = t.slot i := by
  simp [dropSlot, slot_setSlot, h]

/-- A slot that reads EMPTY goes on reading EMPTY while entries are dropped. -/
theorem dropSlot_initial (e : FillEntry) (t : State) (i : Nat) (h : t.slot i = Slot.initial) :
    (dropSlot e t).slot i = Slot.initial := by
  unfold dropSlot
  rw [slot_setSlot]
  split
  · next hi =>
    rw [← hi.1] at h
    cases e.refill <;> simp [h, Slot.initial]
  · exact h

theorem dropSlot_fill (e : FillEntry) (t : State) (h : e.refill = false) :
    (dropSlot e t).slot e.slot = Slot.initial := by
  unfold dropSlot
  rw [slot_setSlot]
  split
  · simp [h]
  · next hi =>
    have : 64 ≤ e.slot := by omega
    exact tget_ge _ _ _ this

theorem dropSlot_refill (e : FillEntry) (t : State) (h : e.refill = true) :
    (dropSlot e t).slot e.slot = { t.slot e.slot with refetch := false } := by
  unfold dropSlot
  rw [slot_setSlot]
  split
  · simp
  · next hi =>
    have : 64 ≤ e.slot := by omega
    have h0 : t.slot e.slot = Slot.initial := tget_ge _ _ _ this
    rw [h0]; rfl

/-- The slots that no entry of a list names stand. -/
theorem dropSlots_other (q : List FillEntry) (t : State) (i : Nat) (h : ∀ e ∈ q, e.slot ≠ i) :
    (each q dropSlot t).slot i = t.slot i := by
  induction q generalizing t with
  | nil => rfl
  | cons e q ih =>
    rw [each_cons, ih _ fun x hx => h x (List.mem_cons_of_mem _ hx)]
    exact dropSlot_other _ _ _ (h e List.mem_cons_self)

theorem dropSlots_initial (q : List FillEntry) (t : State) (i : Nat) (h : t.slot i = Slot.initial) :
    (each q dropSlot t).slot i = Slot.initial :=
  each_keeps (fun u => u.slot i = Slot.initial) q dropSlot (fun e u hu => dropSlot_initial e u i hu) t h

/-- A FILL entry's slot is EMPTY after the drop (R137). -/
theorem dropSlots_fill (q : List FillEntry) (t : State) (e : FillEntry) (he : e ∈ q)
    (h : e.refill = false) : (each q dropSlot t).slot e.slot = Slot.initial := by
  induction q generalizing t with
  | nil => cases he
  | cons x q ih =>
    rw [each_cons]
    rcases List.mem_cons.mp he with rfl | hq
    · exact dropSlots_initial _ _ _ (dropSlot_fill _ _ h)
    · exact ih _ hq

/-- A slot that only REFILL entries name is as it was, but for refetch (R137). -/
theorem dropSlots_refill (q : List FillEntry) (t : State) (i : Nat) (hq : ∃ e ∈ q, e.slot = i)
    (h : ∀ x ∈ q, x.slot = i → x.refill = true) :
    (each q dropSlot t).slot i = { t.slot i with refetch := false } := by
  induction q generalizing t with
  | nil => obtain ⟨e, he, _⟩ := hq; cases he
  | cons x q ih =>
    rw [each_cons]
    have hrest : ∀ y ∈ q, y.slot = i → y.refill = true := fun y hy => h y (List.mem_cons_of_mem _ hy)
    by_cases hx : x.slot = i
    · have hr := h x List.mem_cons_self hx
      have h1 : (dropSlot x t).slot i = { t.slot i with refetch := false } := by
        rw [← hx]; exact dropSlot_refill x t hr
      by_cases hm : ∃ e ∈ q, e.slot = i
      · rw [ih _ hm hrest, h1]
      · rw [dropSlots_other _ _ _ fun e he heq => hm ⟨e, he, heq⟩, h1]
    · have hm : ∃ e ∈ q, e.slot = i := by
        obtain ⟨e, he, heq⟩ := hq
        rcases List.mem_cons.mp he with rfl | hq'
        · exact absurd heq hx
        · exact ⟨e, hq', heq⟩
      rw [ih _ hm hrest, dropSlot_other _ _ _ hx]

/-- Dropping entries changes the slots alone. -/
theorem dropSlots_cst (q : List FillEntry) (t : State) :
    (each q dropSlot t).cst = { t.cst with slots := (each q dropSlot t).cst.slots } := by
  refine each_keeps (fun u => u.cst = { t.cst with slots := u.cst.slots }) q dropSlot ?_ t rfl
  intro e u hu
  have h : (dropSlot e u).cst = { u.cst with slots := (dropSlot e u).cst.slots } := rfl
  rw [h, hu]

/-- The drop of the queue at entry to IDLE, entry by entry (R137). -/
theorem dropQueue_eq (s : State) : dropQueue s = (each s.cst.queue dropSlot s).setQueue [] := rfl

/-- The scanner at rest, and the sequence in flight to be discarded, change nothing of the Content Store. -/
theorem rest_cst (s : State) : (alterScan Scanner.rest (discardFlight s)).cst = s.cst := rfl

/-- Entry to IDLE brings the part to rest (R22, R38, R43, R137, R176). -/
theorem enterIdle_spec (s : State) : EntersIdle s (enterIdle s) := by
  let u := alterScan Scanner.rest (discardFlight s)
  have keep : ∀ b : Block, b ≠ .cst → b.same u (dropQueue u) := fun b hb =>
    dropQueue_only (s := u) b (by simpa using hb)
  have hport : (dropQueue u).port = u.port := keep .port (by decide)
  have hscan : (dropQueue u).scan = u.scan := keep .scan (by decide)
  have hmir : (dropQueue u).mir = u.mir := keep .mir (by decide)
  have hclu : (dropQueue u).clu = u.clu := keep .clu (by decide)
  have hdpm : (dropQueue u).dpm = u.dpm := keep .dpm (by decide)
  have hslot : ∀ i, (enterIdle s).slot i = (each s.cst.queue dropSlot u).slot i := fun _ => rfl
  have harea : ∀ a : Area, tget (Vector.replicate 5 AreaCondition.idle) a.index AreaCondition.idle
      = { phase := .idle, rescan := false } := fun a => tget_replicate _ _
  refine ⟨rfl, rfl, hport, ?_, ?_, ?_, ?_, ?_, ?_, ?_, ?_, ?_, ?_, ?_⟩
  · show (dropQueue u).scan = _
    rw [hscan]
    show u.scan = { s.scan with areas := (dropQueue u).scan.areas, place := none, timer := none,
                                liveRetry := false }
    rw [hscan]; rfl
  · intro a
    show tget (dropQueue u).scan.areas a.index AreaCondition.idle = _
    rw [hscan]; exact harea a
  · have h : (enterIdle s).mir = { (dropQueue u).mir with dirty := (enterIdle s).mir.dirty } := rfl
    rw [h, hmir]; rfl
  · intro i; exact tget_replicate i false
  · have h : (enterIdle s).clu = { (dropQueue u).clu with links := (enterIdle s).clu.links } := rfl
    rw [h, hclu]; rfl
  · intro l
    show tget (tmap (fun x : Link => { x with receiver := Receiver.hunt }) (dropQueue u).clu.links) l
      Link.initial = _
    rw [hclu]
    exact tget_tmap (fun x : Link => { x with receiver := Receiver.hunt }) s.clu.links l Link.initial
  · show { (each s.cst.queue dropSlot u).cst with queue := [] } = _
    rw [dropSlots_cst]; rfl
  · intro i h
    rw [hslot, dropSlots_other _ _ _ h]; rfl
  · intro e he h
    rw [hslot]; exact dropSlots_fill _ _ _ he h
  · intro e he h
    rw [hslot, dropSlots_refill _ _ _ ⟨e, he, rfl⟩ h]; rfl
  · show { (dropQueue u).dpm with timer := none, checkPending := false } = _
    rw [hdpm]; rfl

/-- A reset's marks end in a clear dirty set, the rest of the mirror as it was (R25, R45; log 52). -/
theorem resetMarks_mir (s : State) :
    (resetMarks s).mir = { s.mir with dirty := Vector.replicate 1401 false } := by
  simp only [resetMarks, emptyDirty, markCars, State.withMir]

/-- A failed step of LOADING (R22, R23). -/
theorem failLoading_spec (code : StartFault) (s : State) : LoadingFails code s (failLoading code s) := by
  have hdev : (dropQueue (alterScan Scanner.rest (discardFlight s))).dev = s.dev :=
    dropQueue_only (s := alterScan Scanner.rest (discardFlight s)) .dev (by decide)
  have hcause : (enterIdle s).cause = s.cause := enterIdle_only (s := s) .cause (by decide)
  refine ⟨enterIdle_spec s, ?_, ?_, failLoading_only⟩
  · show { (dropQueue (alterScan Scanner.rest (discardFlight s))).dev with
      state := .idle, load := .outside, startFault := code } = _
    rw [hdev]
  · show (enterIdle s).cause ||| BitVec.ofNat 15 (2 ^ CauseBit.startFault.index) = _
    rw [hcause]; rfl

end Sys2Proof.Machine
end

