-- ==== Sys2Proof/Tests/Slice0.lean ====
section
/-! SUPPORT. Tests: ill-formed commands that the check refuses, and for each statement a small state and
operands that meet its hypotheses, with what the command does there. -/

namespace Sys2Proof.Tests

open Sys2Proof Sys2Proof.Machine

set_option maxRecDepth 100000
set_option Elab.async false

/-! ## Small states -/

/-- The state after a command. -/
def after (c : Instr) (s : State) : State :=
  match exec c s with
  | .next t => t
  | .fault _ => s
  | .refused _ => s

/-- Header settings within their ranges, with cars 0 to 7 configured. -/
def header : HeaderSettings :=
  { HeaderSettings.initial with
    detachCount := 3, reattachCount := 2, scanInterval := 20, checkInterval := 100, entryTimeout := 5,
    holdTime := 5, lanternTime := 4, carLostTime := 10, answerTimeout := 500, expectationTimeout := 20,
    carStaleTime := 1000, flushAge := 50, carMask := 0xFF }

/-- Reset, in a device state and step of LOADING, at device time 100,000. -/
def inState (d : DeviceState) (l : LoadStep) : State :=
  { State.reset with
    dev := { Device.initial with state := d, load := l, time := 100000 }
    hdr := header
    win := { Window.initial with runBit := d != .idle && d != .stopping } }

def running : State := inState .running .outside
def stopping : State := inState .stopping .outside

/-- Presence ATTACHED. -/
def attached (s : State) : State := s.withDpm { s.dpm with presence := .attached }

/-- The port holds an access. -/
def flying (a : Access) (s : State) : State :=
  s.withPort { s.port with inFlight := some { access := a, ops := [], discarded := false } }

theorem flying_flies (a : Access) (s : State) : (flying a s).flies a := ⟨[], rfl⟩

/-- The scan in flight stands at a place. -/
def scanning (p : ScanPlace) (s : State) : State := s.withScan { s.scan with place := some p }

/-! ## The well-formedness check -/

theorem test_header_of_255_bytes : (Instr.headerRead (some (List.replicate 255 0))).wellFormed = false := by
  decide +kernel
theorem test_label_table_of_512_bytes :
    (Instr.labelTableRead (some (List.replicate 512 0))).wellFormed = false := by decide +kernel
theorem test_cell_burst_of_27_bytes :
    (Instr.cellTake (.read 0 (List.replicate 27 0) 0)).wellFormed = false := by decide +kernel
theorem test_live_burst_of_600_bytes :
    (Instr.liveTake (.read 0 (List.replicate 600 0) 0)).wellFormed = false := by decide +kernel
theorem test_fill_body_beside_its_length :
    (Instr.fill (.read 0 5 (List.replicate 4 0))).wellFormed = false := by decide +kernel
theorem test_fill_body_of_a_bad_length :
    (Instr.fill (.read 0 241 (List.replicate 241 0))).wellFormed = false := by decide +kernel
theorem test_register_write_at_a_register : (Instr.registerWriteOther 0x10 32 0).wellFormed = false := by
  decide +kernel
theorem test_register_write_beyond_the_window :
    (Instr.registerWriteOther 0x18 32 0).wellFormed = false := by decide +kernel
theorem test_empty_car_telegram : (Instr.carTelegram 0 []).wellFormed = false := by decide +kernel
theorem test_empty_panel_reply : (Instr.panelReply 0 []).wellFormed = false := by decide +kernel
theorem test_unbroken_character :
    (Instr.carTelegramBroken 0 { data := 0, marker := false, stop := true }).wellFormed = false := by
  decide +kernel
theorem test_quarantine_of_a_built_in_item : (Instr.quarantineExpiry 4088).wellFormed = false := by decide +kernel
theorem test_well_formed_commands :
    (Instr.headerRead (some (List.replicate 256 0))).wellFormed = true
    ∧ (Instr.labelTableRead (some (List.replicate 128 0))).wellFormed = true
    ∧ (Instr.cellTake (.read 0 (List.replicate 12 0) 0)).wellFormed = true
    ∧ (Instr.liveTake (.read 0 (List.replicate 604 0) 0)).wellFormed = true
    ∧ (Instr.fill (.read 0 240 (List.replicate 240 0))).wellFormed = true
    ∧ (Instr.registerWriteOther 0x17 8 0).wellFormed = true
    ∧ (Instr.quarantineExpiry 4087).wellFormed = true := by decide +kernel

/-! ## The step -/

theorem test_no_word_spells_a_command : decodeTableWord 32 0 = none := by decide +kernel

theorem test_step_takes_the_front :
    step (State.reset.withPending [.causeMaskWrite 0xFFFFFFFF, .run true])
      = .next ((State.reset.withWin { Window.initial with mask := 0x7FFF }).withPending [.run true]) := by
  rfl

theorem witness_EmptyQueuePassesOneTick :
    running.pending = [] ∧ State.reset.pending = [] ∧ State.reset.isRunning = false
    ∧ step running = .next (deviceTick running) ∧ (deviceTick running).dev.time = 100001 := by
  refine ⟨?_, ?_, ?_, rfl, ?_⟩ <;> decide

/-! ## The register window and the device states -/

/-- What a reset clears and what a soft reset keeps (R25). -/
theorem test_resets :
    let s := flying .headerRead (running.withWin { anchorLo := 0x10000, anchorHi := 7, runBit := true, mask := 3 })
    (after .powerOnReset s).win = Window.initial ∧ (after .powerOnReset s).port.inFlight = none
    ∧ (after (.softReset true) s).win = { anchorLo := 0x10000, anchorHi := 7, runBit := false, mask := 3 }
    ∧ ((after (.softReset true) s).port.inFlight.map (·.discarded)) = some true
    ∧ (after (.softReset true) s).dev.state = .idle := by decide +kernel

/-- The six moves of RUN, and a write that changes nothing (R22). -/
theorem witness_RunMovesDeviceState :
    (after (.run true) State.reset).dev.state = .loading
    ∧ (after (.run false) (inState .loading .header)).dev.state = .idle
    ∧ (after (.run false) (inState .loading .header)).cause = 0x4000
    ∧ (after (.run false) running).dev.state = .stopping
    ∧ (after (.run true) stopping).dev.state = .stopping ∧ (after (.run true) stopping).win.runBit = true
    ∧ running.win.runBit = true ∧ (after (.run true) running).dev.state = .running
    ∧ ((State.reset.withWin { Window.initial with runBit := true }).dev.state = .idle) := by decide +kernel

theorem witness_StartClearsThePart :
    State.reset.dev.state = .idle ∧ State.reset.win.runBit = false
    ∧ (after (.run true) (State.reset.withWin { Window.initial with anchorLo := 0x20000, anchorHi := 1 })).dev
      = { state := .loading, load := .header, startFault := .clear, time := 0, board := 0x100020000,
          stopLost := false } := by decide +kernel

theorem witness_WindowAndAnchors :
    State.reset.dev.state = .idle ∧ running.dev.state ≠ .idle ∧ State.reset.win.anchorLo &&& 0xFFFF = 0
    ∧ (after (.anchorLoWrite 0xFFFFFFFF) State.reset).win.anchorLo = 0xFFFF0000
    ∧ (after (.anchorHiWrite 0xFFFFFFFF) State.reset).win.anchorHi = 0xFFFFFFFF
    ∧ (after (.anchorLoWrite 0xFFFFFFFF) running).win.anchorLo = 0
    ∧ (after (.anchorHiWrite 5) running).win.anchorHi = 0
    ∧ (after (.registerWriteOther 0x16 16 5) running).win = running.win
    ∧ (State.reset.windowRead 0x00 16 = 0 ∧ (0x18 : Nat) ∉ registerOffsets)
    ∧ (after (.run true) (State.reset.withWin { Window.initial with anchorHi := 1 })).dev.board
        ≠ State.reset.dev.board := by decide +kernel

theorem test_cause_and_state_words :
    (after (.causeWrite 0x101) (running.withCause 0x0303)).cause = 0x0202
    ∧ (running.withCause 0x7FFF).windowRead 0x10 32 = 0x7FFF
    ∧ (attached running).windowRead 0x0C 32 = 0x6 := by decide +kernel

theorem witness_MaskAndInterruptLine :
    (after (.causeMaskWrite 0xFFFF8001) (running.withCause 1)).windowRead 0x14 32 = 1
    ∧ (after (.causeMaskWrite 0xFFFF8001) (running.withCause 1)).irq = true
    ∧ (running.withCause 1).irq = false ∧ running.win.mask.getLsbD CauseBit.stopped.index = false := by decide +kernel

/-! ## The port, the mirror and the scanner -/

/-- The fourth failure in a row, a success after it, a discarded result, and a command that ends no sequence
in flight (R41, R42). -/
theorem witness_SequenceEndsFreeThePort :
    let s := attached (flying .supplyRead (running.withPort { Port.initial with failures := 3 }))
    busAnswer (.supplyCountRead none) = some false
    ∧ s.port.inFlight = some { access := .supplyRead, ops := [], discarded := false }
    ∧ commandEnds (.supplyCountRead none) .supplyRead = true
    ∧ (after (.supplyCountRead none) s).port =
        { inFlight := none, lastGranted := .mirrorWriter, failures := 4, boardLost := true }
    ∧ (after (.supplyCountRead none) s).dpm.presence = .detachedBoard
    ∧ (after (.supplyCountRead none) s).cause = 0x0600
    ∧ (after (.supplyCountRead (some 9)) s).port.failures = 0
    ∧ commandEnds (.mirrorWrite true) .supplyRead = false
    ∧ (after (.mirrorWrite true) s).port.failures = 3
    ∧ (after (.supplyCountRead (some 9))
        (s.withPort { s.port with inFlight := some { access := .supplyRead, ops := [], discarded := true } })).eru
        = s.eru := by decide +kernel

/-- The port goes to the claimant after the one last granted, and nobody takes a held port, or a free one in
IDLE (R40). -/
theorem witness_PortGoesRoundRobin :
    let s := (running.withDpm { Dpm.initial with checkPending := true }).withPort
      { Port.initial with lastGranted := .scanner }
    (after .portGrant s).port.lastGranted = .heartbeatReader ∧ s.port.inFlight = none
    ∧ ((startClaim .heartbeatReader s).map fun p => p.2.access) = some .heartbeatRead
    ∧ claimantDistance .scanner .heartbeatReader = 0
    ∧ (flying .supplyRead running).port.inFlight.isSome = true
    ∧ (∀ c ∈ claimants, (startClaim c State.reset).isSome = false) := by decide +kernel

theorem witness_FailedMirrorWriteStaysDirty :
    (flying (.mirrorWrite 1400) running).flies (.mirrorWrite 1400)
    ∧ tget (after (.mirrorWrite false) (flying (.mirrorWrite 0) running)).mir.dirty 0 false = true
    ∧ tget (after (.mirrorWrite true) (flying (.mirrorWrite 0) running)).mir.dirty 0 false = false :=
  ⟨flying_flies _ _, by decide⟩

/-- A nudge in each device state, and the order of the scans (R26, R33). -/
theorem witness_NudgesRequestScans :
    (after .nudgeLive running).scan.place = some .live
    ∧ (after .nudgeCells (after .nudgeLive running)).scan.area .cells = { phase := .requested, rescan := false }
    ∧ (after .nudgeLive (after .nudgeLive running)).scan.area .live = { phase := .inFlight, rescan := true }
    ∧ ((after .nudgeAnswers (inState .loading .header)).scan.area .answers).rescan = true
    ∧ ((after .nudgeOverrides stopping).scan.area .overrides).phase = .idle
    ∧ (after .nudgeSupply running).scan.place = some .supply ∧ running.scan.place = none
    ∧ (after .nudgeFlush stopping).eru = stopping.eru
    ∧ (startScan (running.withScan { running.scan with
        lastScanned := .live, areas := Vector.replicate 5 { phase := .requested, rescan := false } })).scan.place
        = some .supply := by decide +kernel

theorem witness_TimedAndSupplyScans :
    let due := running.withScan { running.scan with timer := some 0, liveRetry := true }
    let wants := running.setRoute 7 { Route.initial with enabled := true, openPage := some 5 }
    due.dev.state = .running ∧ (after .scanIntervalExpiry due).scan.timer = some 20
    ∧ ((after .scanIntervalExpiry due).scan.area .live).phase = .requested
    ∧ (after .scanIntervalExpiry due).scan.place = some (.counter .cells 0)
    ∧ (after .scanIntervalExpiry running).scan.timer = none
    ∧ wants.available = 0 ∧ wants.eru.requestHold = 0 ∧ (wants.route 7).needsPage = true
    ∧ (after .supplyScanRequest wants).scan.place = some .supply
    ∧ (after .supplyScanRequest wants).eru.requestHold = 20 := by decide +kernel

/-! ## LOADING, the takes and the end of STOPPING -/

/-- The 256 bytes of a header with the settings of `header`, supply base 9 and heartbeat 4. -/
def headerBytes : List Byte :=
  padTo 256 ([0x48, 0x4C, 3, 2, 20, 0, 100, 0, 5, 5, 4, 10, 0xF4, 1, 20, 0, 0xE8, 3, 50, 0, 9, 0, 0, 0,
    0xFF, 0, 0, 0, 0, 0, 0, 0, 4])

/-- The burst of a live configuration within its ranges, with the first byte of its routing table, string
S0's first control byte and its tail count given. -/
def liveBurst (mode control tail : Byte) : List Byte :=
  [control, 1, 1, 0] ++ (List.range 15).flatMap (fun _ => [0x10, 1, 1, 0]) ++ List.replicate 64 0
    ++ (List.range 16).flatMap (fun _ => [0x0A, 0x50, 0x40, 0x01])
    ++ padTo 60 [] ++ [mode, 8] ++ List.replicate 346 0 ++ [tail, 0, 0, 0]

theorem witness_HeaderReadChecksTagAndRanges :
    let s := flying .headerRead (inState .loading .header)
    s.flies .headerRead ∧ headerSettings headerBytes = { header with supplyBase := 9 }
    ∧ (headerSettings headerBytes).inRange = true ∧ num16At headerBytes 0 = 0x4C48
    ∧ (after (.headerRead (some headerBytes)) s).dev.load = .live
    ∧ (after (.headerRead (some headerBytes)) s).dpm.lastSeen = 4
    ∧ (after (.headerRead (some headerBytes)) s).eru.drawn = 9
    ∧ (after (.headerRead (some [])) s).dev.startFault = .tag
    ∧ (after (.headerRead (some [0x48, 0x4C])) s).dev.startFault = .range
    ∧ (after (.headerRead none) s).dev.startFault = .bus
    ∧ (after (.headerRead none) s).dev.state = .idle ∧ (after (.headerRead none) s).cause = 0x2000 := by
  refine ⟨flying_flies _ _, ?_⟩; decide +kernel

theorem witness_LabelTablesAreHeld :
    let floors := flying .floorLabelRead (inState .loading .floorLabels)
    let cars := flying .carLabelRead (inState .loading .carLabels)
    floors.flies .floorLabelRead ∧ cars.flies .carLabelRead
    ∧ (after (.labelTableRead none) cars).dev.startFault = .labels
    ∧ tget (after (.labelTableRead (some (List.replicate 1020 0 ++ [1, 2, 3, 4]))) floors).clu.floorLabels 255 []
        = [1, 2, 3, 4]
    ∧ (after (.labelTableRead (some [])) floors).dev.load = .carLabels
    ∧ tget (after (.labelTableRead (some (List.replicate 126 0 ++ [1, 2]))) cars).clu.carLabels 63 [] = [1, 2]
    ∧ (after (.labelTableRead (some [])) cars).dev.load = .supplyCount := by
  refine ⟨flying_flies _ _, flying_flies _ _, ?_⟩; decide +kernel

theorem witness_CounterReadPassesOrBegins :
    let s (a : Area) (g : Nat) := flying (.counterRead a g) (scanning (.counter a g) running)
    (s .cells 0).flies (.counterRead .cells 0) ∧ (s .cells 0).dev.state = .running
    ∧ (after (.groupCounterRead (some 5)) (s .cells 0)).scan.place = some (.cell .cells 0 0 5 true)
    ∧ (after (.groupCounterRead none) (s .cells 0)).scan.place = some (.counter .cells 1)
    ∧ (after (.groupCounterRead none) (s .overrides 20)).scan.place = none
    ∧ (after (.groupCounterRead none) (s .cells 15)).scan.place = none
    ∧ (after (.groupCounterRead none) (s .answers 19)).scan.place = none
    ∧ (let t := s .answers 16
       let u := t.withScan { t.scan with seen := tset t.scan.seen 16 (some 5) }
       tget u.scan.seen 16 none = some 5
       ∧ (after (.groupCounterRead (some 5)) u).scan.place = some (.counter .answers 17)) := by
  refine ⟨flying_flies _ _, ?_⟩; decide +kernel

/-- An override cell (cell 671) new, unchanged, torn and torn for the eighth time, and a bus error (R30,
R31). -/
theorem witness_CellTakeIsSorted :
    let s := flying (.cellTake .overrides 671) (scanning (.cell .overrides 20 31 5 true) running)
    let burst (tail : Byte) : List Byte := [3, 0, 0xFD, 0x0F, 0, 0, 0, 0, tail, 0, 0, 0]
    let t := after (.cellTake (.read 7 (burst 7) 7)) s
    let seven := s.withScan { s.scan with torn := tset s.scan.torn 671 7 }
    s.flies (.cellTake .overrides 671) ∧ s.scan.place = some (.cell .overrides 20 31 5 true)
    ∧ tailOf (burst 7) = 7 ∧ tget t.scan.taken 671 0 = 7
    ∧ t.receipt 671 = { count := 7, verdict := .accepted, reason := .unset }
    ∧ (t.zone 31).priority = .evacuate ∧ tget t.scan.seen 20 none = some 5
    ∧ tget (after (.cellTake (.read 0 (burst 0) 0)) s).scan.taken 671 0 = 0
    ∧ tget (after (.cellTake (.read 7 (burst 6) 7)) s).scan.torn 671 0 = 1
    ∧ tget (after (.cellTake (.read 7 (burst 7) 8)) seven).scan.torn 671 0 = 0
    ∧ tget (after (.cellTake (.read 7 (burst 7) 8)) seven).scan.seen 20 none = none
    ∧ tget (after (.cellTake .busError) seven).scan.torn 671 0 = 7 := by
  refine ⟨flying_flies _ _, ?_⟩; decide +kernel

theorem witness_SeedsAndSupplyCountAreHeld :
    let seed (g i : Nat) :=
      flying (.seedRead (g * 32 + i)) (scanning (.seed g i) (inState .loading .firstScan))
    let supply := flying .supplyRead (inState .loading .supplyCount)
    (seed 16 0).flies (.seedRead 512) ∧ supply.flies .supplyRead
    ∧ (seed 16 0).scan.place = some (.seed 16 0) ∧ (seed 16 0).dev.state = .loading
    ∧ tget (after (.answerSeedRead (some 3)) (seed 16 0)).scan.taken 512 0 = 3
    ∧ (after (.answerSeedRead (some 3)) (seed 16 0)).scan.place = some (.seed 16 1)
    ∧ (after (.answerSeedRead (some 3)) (seed 19 31)).scan.place = some (.counter .overrides 20)
    ∧ (after (.answerSeedRead none) (seed 19 31)).dev.startFault = .bus
    ∧ (after (.supplyCountRead (some 3)) supply).eru.lastRead = 3
    ∧ (after (.supplyCountRead (some 3)) supply).dev.load = .firstScan
    ∧ (after (.supplyCountRead none) supply).dev.startFault = .bus
    ∧ (after (.supplyCountRead (some 8)) (flying .supplyRead running)).eru.lastRead = 8 := by
  refine ⟨flying_flies _ _, flying_flies _ _, ?_⟩; decide +kernel

/-- A live configuration in RUNNING: applied, unchanged, refused by range and by routing, torn, and torn with
a scan interval of 0 (R28). -/
theorem witness_LiveTakeAppliesWholeOrNothing :
    let s := flying .liveTake (running.withScan (Scanner.start .live running.scan))
    let quick := s.withHdr { s.hdr with scanInterval := 0 }
    s.flies .liveTake ∧ s.dev.state = .running ∧ (s.scan.area .live).phase = .inFlight
    ∧ liveVerdictOf (liveBurst 0 0x11 2) = .accepted ∧ tailOf (liveBurst 0 0x11 2) = 2
    ∧ (after (.liveTake (.read 2 (liveBurst 0 0x11 2) 2)) s).scan.liveTaken = 2
    ∧ ((after (.liveTake (.read 2 (liveBurst 0 0x11 2) 2)) s).string 0).state = .powering
    ∧ (after (.liveTake (.read 0 (liveBurst 0 0x11 0) 0)) s).scan.liveVerdict = .unset
    ∧ (after (.liveTake (.read 2 (liveBurst 0 0x01 2) 2)) s).scan.liveVerdict = .range
    ∧ (after (.liveTake (.read 2 (liveBurst 1 0x11 2) 2)) s).scan.liveVerdict = .routing
    ∧ ((after (.liveTake (.read 2 (liveBurst 1 0x11 2) 2)) s).string 0).state = .off
    ∧ (after (.liveTake (.read 2 (liveBurst 0 0x11 2) 3)) s).scan.liveTorn = 1
    ∧ (after (.liveTake (.read 2 (liveBurst 0 0x11 2) 3)) s).scan.liveRetry = true
    ∧ ((after (.liveTake (.read 2 (liveBurst 0 0x11 2) 3)) quick).scan.area .live).phase = .inFlight := by
  refine ⟨flying_flies _ _, ?_⟩; decide +kernel

/-- Step 5 of LOADING takes a configuration whatever its count (R23, R28). -/
theorem test_live_take_at_loading :
    let s := flying .liveTake (inState .loading .live)
    (after (.liveTake (.read 0 (liveBurst 0 0x11 0) 0)) s).dev.load = .floorLabels
    ∧ (after (.liveTake (.read 2 (liveBurst 0 0x11 2) 3)) s).dev.startFault = .range
    ∧ (after (.liveTake .busError) s).dev.startFault = .bus := by decide +kernel

/-- STOPPING ends at once where BOARD_LOST has stood, and again LOADING where RUN is 1 (R24). -/
theorem witness_StoppingEndsAtRest :
    let lost := stopping.withDev { stopping.dev with stopLost := true }
    (∀ k, k < 16 → (lost.string k).state = .off) ∧ lost.dev.state = .stopping
    ∧ (after .stoppingEnd lost).dev.state = .idle ∧ (after .stoppingEnd lost).cause = 0x4000
    ∧ (after .stoppingEnd (lost.withWin { lost.win with runBit := true })).dev.state = .loading
    ∧ (stopping.route 7).stopped = false ∧ stopping.dev.stopLost = false
    ∧ (after .stoppingEnd stopping).dev.state = .stopping := by decide +kernel

/-! ## The Event Route Unit -/

/-- An event of no kind in particular. -/
def someEvent : Event :=
  { kind := .cellStuck, cls := 39, source := 1, ticket := 0, payload := [], time := 9 }

/-- RUNNING with routes 2 and 5 enabled, route 5 full, and class entry 39 as given. -/
def routed (e : RouteEntry) : State :=
  (((running.setRoute 2 { Route.initial with enabled := true }).setRoute 5
    { Route.initial with enabled := true, staging := List.replicate 16 someEvent }).setEntry 39 e)

/-- The entries of `routed` are valid where entry 39 is. -/
theorem routed_valid (e : RouteEntry) (h : (e.mode = .single → e.target < 8)
    ∧ (e.mode = .rotate → e.mask ≠ 0) ∧ e.cursor < 8) : routingValid (routed e) := by
  intro k hk
  have hget : (routed e).entry k = if k = 39 then e else RouteEntry.initial := by
    show tget (tset (Vector.replicate 40 RouteEntry.initial) 39 e) k RouteEntry.initial = _
    rw [tget_tset]
    by_cases h39 : k = 39
    · simp [h39]
    · rw [if_neg (fun h => h39 h.1.symm), if_neg h39]
      exact tget_replicate k _
  rw [hget]
  by_cases h39 : k = 39
  · rw [if_pos h39]; exact h
  · rw [if_neg h39]; decide

theorem witness_OffAndSingleEntries :
    let off := routed RouteEntry.initial
    let single (t : Nat) := routed { mode := .single, target := t, mask := 0, cursor := 0 }
    routingValid off ∧ routingValid (single 2) ∧ routingValid (single 7)
    ∧ off.routesOffers = true ∧ ((single 2).route 2).takes ∧ ¬ ((single 5).route 5).takes
    ∧ (offerVia 39 someEvent off).2 = none ∧ (offerVia 39 someEvent off).1.eru = off.eru
    ∧ ((offerVia 39 someEvent (single 2)).1.route 2).staging = [someEvent]
    ∧ (offerVia 39 someEvent (single 5)).2 = none
    ∧ ((offerVia 39 someEvent (single 5)).1.route 5).dropped = 1
    ∧ (offerVia 39 someEvent (single 7)).1.cause = 0x0100 := by
  refine ⟨routed_valid _ (by decide), routed_valid _ (by decide), routed_valid _ (by decide), by decide,
    by unfold Route.takes; decide, by unfold Route.takes; decide, ?_⟩
  decide +kernel

/-- ROTATE passes over a full route and one that is not enabled, and refuses where none can take (R91). -/
theorem witness_RotateEntries :
    let s (m : Byte) (c : Nat) := routed { mode := .rotate, target := 0, mask := m, cursor := c }
    routingValid (s 0x24 2) ∧ routingValid (s 0x20 7)
    ∧ (offerVia 39 someEvent (s 0x24 2)).2 = some 2
    ∧ ((offerVia 39 someEvent (s 0x24 0)).1.entry 39).cursor = 2
    ∧ (offerVia 39 someEvent (s 0x20 7)).2 = none
    ∧ ((offerVia 39 someEvent (s 0x20 7)).1.entry 39).cursor = 7
    ∧ ((offerVia 39 someEvent (s 0x20 7)).1.route 7).dropped = 1 := by
  refine ⟨routed_valid _ (by decide), routed_valid _ (by decide), ?_⟩; decide +kernel

/-- A bound session 127 whose request of ticket 6 was recorded on a route, WAITING. -/
def waitingOn (r : Nat) (s : State) : State :=
  s.setSession 127 { Session.initial with
    bound := true, state := .waiting, ticket := 6, route := some r, retiredRoute := some r,
    retiredTicket := 5, retiredKind := .withdrawn, destination := some 9, timer := some 0 }

theorem witness_CancelAndLateByAffinity :
    let s (r : Nat) := waitingOn r (routed RouteEntry.initial)
    let late : Answer := { ticket := 5, verdict := .assigned, car := 0, deckCode := 0, reasonCode := 0, hold := 0 }
    (s 2).routesOffers = true ∧ ((s 2).session 127).route = some 2 ∧ ((s 2).session 127).bound = true
    ∧ ((offerCancel 127 .clear (s 2)).route 2).staging.map (·.ticket) = [6]
    ∧ ((offerCancel 127 .clear (s 5)).route 5).dropped = 1
    ∧ ((offerLate 127 late (s 2)).route 2).staging.map (·.ticket) = [5]
    ∧ ((offerLate 127 late (s 5)).route 5).dropped = 1 := by decide +kernel

/-- Each rank of R99 once, and the choice of rank 1 to 5 before rank 6. -/
theorem witness_PageEngineChoosesByRank :
    let paged := running.withEru { running.eru with lastRead := 1 }
    let withRoute (x : Route) := paged.setRoute 7 x
    let opened := { Route.initial with enabled := true, openPage := some 5, openWritten := true }
    (withRoute { opened with openWritten := false }).rank 7 = some 1
    ∧ (withRoute { opened with closing := some .age }).rank 7 = some 2
    ∧ (withRoute { opened with closing := some .age, successor := some 6 }).rank 7 = some 3
    ∧ (withRoute { Route.initial with staging := [someEvent] }).rank 7 = some 4
    ∧ (withRoute { opened with staging := [someEvent], records := 13 }).rank 7 = some 5
    ∧ (withRoute opened).rank 7 = some 6
    ∧ (withRoute opened).engineRoute = some 7
    ∧ ((withRoute opened).setRoute 3 { opened with openWritten := false }).engineRoute = some 3
    ∧ (∀ r, r < 8 → running.rank r = none) ∧ running.engineRoute = none := by decide +kernel

theorem witness_PageDrawsAndWrites :
    let draw (asOpen : Bool) := flying (.pageDraw 7 asOpen) running
    let x := { Route.initial with openPage := some 5, records := 13, staging := [someEvent] }
    let record := flying (.recordWrite 7) (running.setRoute 7 x)
    (draw true).flies (.pageDraw 7 true) ∧ record.flies (.recordWrite 7)
    ∧ (flying (.openWrite 7) running).flies (.openWrite 7)
    ∧ ((after (.pageDraw (some 0x1234500)) (draw true)).route 7).openPage = some 0x12345
    ∧ ((after (.pageDraw (some 0x1234500)) (draw true)).route 7).chain = 1
    ∧ ((after (.pageDraw (some 0x1234500)) (draw false)).route 7).successor = some 0x12345
    ∧ (after (.pageDraw (some 0xFF)) (draw true)).eru.drawn = 1
    ∧ ((after (.pageDraw (some 0xFF)) (draw true)).route 7).openPage = none
    ∧ (after (.pageDraw none) (draw true)).eru.drawn = 0
    ∧ ((after (.openWrite true) (flying (.openWrite 7) running)).route 7).openWritten = true
    ∧ ((after (.recordWrite true) record).route 7) = { x with
        staging := [], records := 14, closing := some .full }
    ∧ (after (.recordWrite false) record).route 7 = x := by
  refine ⟨flying_flies _ _, flying_flies _ _, flying_flies _ _, ?_⟩; decide +kernel

theorem witness_CloseWritePromotesSuccessor :
    let x := { Route.initial with
      openPage := some 5, successor := some 6, records := 3, closing := some .age, dropped := 4 }
    let s (b : Bool) := flying (.closeWrite 7 4 b) (running.setRoute 7 x)
    (s true).flies (.closeWrite 7 4 true)
    ∧ (after (.closeWrite true) (s true)).route 7 = { Route.initial with openPage := some 6, serial := 1 }
    ∧ (after (.closeWrite true) (s false)).route 7 = { Route.initial with successor := some 6, serial := 1 }
    ∧ (after (.closeWrite true) (s true)).cause = 0x80
    ∧ (after (.closeWrite false) (s true)).route 7 = x := by
  refine ⟨flying_flies _ _, ?_⟩; decide +kernel

theorem witness_ClosesBecomePending :
    let x := { Route.initial with openPage := some 5, records := 1, firstTime := 99950 }
    let s := running.setRoute 7 x
    let stop := stopping.setRoute 7 { x with staging := [someEvent], records := 14 }
    s.hdr.flushAge ≤ (s.dev.time - (s.route 7).firstTime).toNat
    ∧ ((after (.flushAgeExpiry 7) s).route 7).closing = some .age
    ∧ ((after (.flushAgeExpiry 7) (running.setRoute 7 { x with firstTime := 99951 })).route 7).closing = none
    ∧ ((after .nudgeFlush s).route 7).closing = some .flush
    ∧ ((after .nudgeFlush s).route 6).closing = none
    ∧ (∀ k, k < 16 → (stop.string k).state = .off) ∧ stop.available = 0
    ∧ (after (.routeStopPoint 7) stop).route 7 = { x with
        records := 14, stopped := true, dropped := 1, droppedTotal := 1, closing := some .stop }
    ∧ (after (.routeStopPoint 7) stop).cause = 0x0100
    ∧ ((after (.routeStopPoint 6) stop).route 6).stopped = true
    ∧ ((after (.routeStopPoint 7) running).route 7).stopped = false := by decide +kernel

/-! ## Presence -/

theorem witness_HeartbeatMovesPresence :
    let s (p : Presence) (n : Nat) :=
      flying .heartbeatRead (running.withDpm { Dpm.initial with
        presence := p, unchanged := n, changed := n, checkPending := true, lastSeen := 4 })
    let due := running.withDpm { Dpm.initial with timer := some 0 }
    (s .attached 2).flies .heartbeatRead
    ∧ (after .presenceCheckExpiry due).dpm.checkPending = true
    ∧ (after .presenceCheckExpiry due).dpm.timer = some 100
    ∧ (after .presenceCheckExpiry running).dpm.checkPending = false
    ∧ (after (.heartbeatRead (some 5)) (s .waitingFirst 0)).dpm.presence = .attached
    ∧ (after (.heartbeatRead (some 4)) (s .waitingFirst 0)).dpm.presence = .waitingFirst
    ∧ (after (.heartbeatRead (some 4)) (s .attached 1)).dpm.unchanged = 2
    ∧ (after (.heartbeatRead none) (s .attached 2)).dpm.presence = .detachedHeartbeat
    ∧ (after (.heartbeatRead (some 5)) (s .attached 2)).dpm.unchanged = 0
    ∧ (after (.heartbeatRead (some 5)) (s .detachedHeartbeat 0)).dpm.changed = 1
    ∧ (after (.heartbeatRead (some 5)) (s .detachedHeartbeat 1)).dpm.presence = .attached
    ∧ (after (.heartbeatRead (some 4)) (s .detachedBoard 1)).dpm.changed = 0
    ∧ (after (.heartbeatRead (some 5)) (s .attached 2)).dpm.lastSeen = 5 := by
  refine ⟨flying_flies _ _, ?_⟩; decide +kernel

theorem witness_DetachedSessionsFallBack :
    let s := waitingOn 2 (attached running)
    s.dpm.presence = .attached ∧ (s.session 127).state = .waiting
    ∧ ((changePresence .detachedHeartbeat s).session 127).state = .fallback
    ∧ ((changePresence .detachedHeartbeat s).session 127).retiredTicket = 6
    ∧ ((changePresence .detachedHeartbeat s).session 127).ticket = 0
    ∧ ((changePresence .detachedHeartbeat s).session 126).state = .idle := by decide +kernel

theorem witness_sessionsNeedPresence : sessionsNeedPresence (attached running)
    ∧ step (attached running) = .next (deviceTick (attached running)) :=
  ⟨fun h => absurd rfl h, rfl⟩

/-! ## Cars and lanterns -/

/-- A lantern of car 3 at floor 9 on display 511. -/
def lit (x : Lantern) (s : State) : State := s.setLantern 511 (some x)

/-- A telegram of car 3 (link 0): sequence, floor, motion and direction, door. -/
def telegramData (sequence floor motion door : Byte) : List Byte := [sequence, floor, 0xFF, motion, door, 0]

theorem witness_TelegramUpdatesItsCar :
    let lantern := { Lantern.initial 3 9 with state := .expected, expected := 2 }
    let s := (lit lantern running).setCar 3
      { Car.initial with state := .fresh, sequence := 255, motion := .moving, gaps := 255 }
    let t := after (.carTelegram 0 (carTelegramChars 3 (telegramData 1 9 4 1))) s
    carOf 0 3 = 3 ∧ s.hdr.carMask.getLsbD 3 = true ∧ (s.link 0).receiver = .hunt
    ∧ telegramFields (telegramData 1 9 4 1) = some
        { sequence := 1, lower := 9, upper := 0xFF, motion := .stopped, direction := .up,
          door := .opening, mode := .normal, full := false }
    ∧ t.car 3 = { Car.initial with
        state := .fresh, lower := 9, lowerShown := some 9, direction := .up, door := .opening,
        sequence := 1, gaps := 255, lastTime := 100000 }
    ∧ t.lantern 511 = some { lantern with
        state := .arriving, remaining := some 4000, expected := 0, direction := .up }
    ∧ ((after (.carTelegram 0 (carTelegramChars 3 (telegramData 0 253 0 0))) running).car 3).state = .fresh
    ∧ ((after (.carTelegram 0 (carTelegramChars 3 (telegramData 0 9 0 0))) s).car 3).gaps = 255
    ∧ (running.car 3).state = .unheard := by decide +kernel

theorem witness_DroppedTelegramsAreCounted :
    let whole (h check : Byte) (d : List Byte) : List LineChar :=
      { data := h, marker := true, stop := true } ::
        (d ++ [check]).map fun b => { data := b, marker := false, stop := true }
    let data := telegramData 0 9 0 0
    let heard := running.setCar 3 { Car.initial with state := .fresh }
    let collecting := running.setLink 7 { receiver := .collecting 3 [1], errors := 65535 }
    data.length = 6 ∧ telegramFields (data ++ [crc8 (3 :: data)]) ≠ none
    ∧ ((after (.carTelegram 0 (whole 3 (crc8 (3 :: data) + 1) data)) running).link 0).errors = 1
    ∧ (let bad := telegramData 0 0xFF 0 0
       telegramFields (bad ++ [crc8 (3 :: bad)]) = none
       ∧ ((after (.carTelegram 0 (whole 3 (crc8 (3 :: bad)) bad)) running).link 0).errors = 1)
    ∧ running.hdr.carMask.getLsbD (carOf 1 0) = false
    ∧ ((after (.carTelegram 1 (whole 0 (crc8 (0 :: data)) data)) running).link 1).errors = 1
    ∧ (heard.car 3).sequence = 0 ∧ (heard.car 3).state ≠ .unheard
    ∧ ((after (.carTelegram 0 (whole 3 (crc8 (3 :: data)) data)) heard).car 3).lower = 0xFF
    ∧ ((after (.carTelegram 0 (whole 3 (crc8 (3 :: data)) data)) heard).link 0).errors = 0
    ∧ ((after (.carTelegram 0 (whole 3 0 data)) stopping).link 0).errors = 0
    ∧ (after (.carTelegramBroken 7 { data := 9, marker := true, stop := true }) collecting).link 7
        = { receiver := .collecting 9 [], errors := 65535 }
    ∧ ((after (.carTelegramBroken 7 { data := 9, marker := false, stop := false }) collecting).link 7).receiver
        = .hunt := by decide +kernel

theorem witness_SilentCarsGoStaleAndLost :
    let fresh (t : Word32) := running.setCar 7 { Car.initial with state := .fresh, lastTime := t }
    let dark := lit { Lantern.initial 7 9 with state := .arriving, remaining := some 5, direction := .up }
    ((after (.carStaleExpiry 7) (fresh 99000)).car 7).state = .stale
    ∧ ((after (.carStaleExpiry 7) (fresh 99001)).car 7).state = .fresh
    ∧ ((after (.carLostExpiry 7) (dark (fresh 90000))).car 7).state = .lost
    ∧ (after (.carLostExpiry 7) (dark (fresh 90000))).lantern 511 = some (Lantern.initial 7 9)
    ∧ ((after (.carLostExpiry 7) (fresh 90001)).car 7).state = .fresh
    ∧ running.hdr.carMask.getLsbD 8 = false
    ∧ ((after (.carLostExpiry 8) running).car 8).state = .unheard := by decide +kernel

theorem witness_LanternLeavesArriving :
    let x := { Lantern.initial 3 9 with state := .arriving, remaining := some 0, direction := .up }
    let moving := (lit { x with expected := 1 } running).setCar 3 { Car.initial with state := .stale }
    let m := telegramData 1 9 1 0
    telegramFields m ≠ none ∧ (moving.car 3).motion ≠ .moving
    ∧ (after (.lanternTimeExpiry 511) (lit x running)).lantern 511 = some (Lantern.initial 3 9)
    ∧ ((after (.lanternTimeExpiry 511) (lit { x with expected := 15 } running)).lantern 511).map (·.state)
        = some .expected
    ∧ ((after (.lanternTimeExpiry 511) (lit { x with remaining := some 1 } running)).lantern 511).map (·.state)
        = some .arriving
    ∧ (lit (Lantern.initial 3 9) running).lantern 511 = some (Lantern.initial 3 9)
    ∧ ((after (.carTelegram 0 (carTelegramChars 3 m)) moving).lantern 511).map (·.state) = some .expected := by
  decide +kernel

theorem witness_ExpectationTimerClearsCount :
    let x := { Lantern.initial 3 9 with state := .expected, expected := 15, lastIncrement := 80000 }
    ((after (.expectationExpiry 511) (lit x running)).lantern 511) = some { x with
      expected := 0, state := .dark }
    ∧ ((after (.expectationExpiry 511) (lit { x with state := .arriving } running)).lantern 511).map (·.state)
        = some .arriving
    ∧ ((after (.expectationExpiry 511) (lit { x with lastIncrement := 80001 } running)).lantern 511).map
        (·.expected) = some 15
    ∧ ((assignLanterns 3 9 (attached (lit x running))).lantern 511).map (·.expected) = some 15
    ∧ ((assignLanterns 3 9 (attached (lit (Lantern.initial 3 9) running))).lantern 511).map (·.state)
        = some .expected
    ∧ (running.car 3).state ≠ .lost := by decide +kernel

/-! ## The Destination Request Unit -/

/-- Display 511 a KEYPAD record of slot 127 at floor 0, in zone 31, with ACCESS assist. -/
def keypad (x : Session) (s : State) : State :=
  (s.setDisplay 511 { DisplayRecord.initial with
    status := .bound, binding := .keypad 127 0, string := 15, address := 31, zone := 31, enable := true,
    assist := true }).setSession 127 { x with bound := true, display := 511 }

theorem witness_EntryKeysAndTimeout :
    let s (x : Session) := keypad x running
    let entering := { Session.initial with state := .entering, digits := [1, 2], timer := some 0 }
    ((applyKey 127 (.digit 7) (s Session.initial)).session 127).digits = [7]
    ∧ ((applyKey 127 (.digit 3) (s entering)).session 127).digits = [1, 2, 3]
    ∧ ((applyKey 127 (.digit 4) (s { entering with digits := [1, 2, 3] })).session 127).digits = [1, 2, 3]
    ∧ ((applyKey 127 .access (s Session.initial)).session 127).access = true
    ∧ ((applyKey 127 .clear (s entering)).session 127).state = .idle
    ∧ ((after (.entryTimeoutExpiry 127) (s entering)).session 127).state = .idle
    ∧ ((after (.entryTimeoutExpiry 127) (s { Session.initial with access := true, timer := some 0 })).session
        127).access = false
    ∧ ((after (.entryTimeoutExpiry 127) (s { entering with timer := some 1 })).session 127).state = .entering
    ∧ (s entering).dev.state = .running := by decide +kernel

theorem witness_HoldEndsByTimeOrKey :
    let s (st : SessionState) (t : Nat) := keypad { Session.initial with
      state := st, timer := some t, fallback := .busy, destination := some 9 } running
    (∀ st ∈ [SessionState.showing, .refused, .invalid, .fallback],
      (after (.holdTimeExpiry 127) (s st 0)).session 127
        = { Session.initial with bound := true, display := 511 })
    ∧ ((after (.holdTimeExpiry 127) (s .showing 1)).session 127).state = .showing
    ∧ ((applyKey 127 (.digit 7) (s .invalid 0)).session 127).digits = [7]
    ∧ ((applyKey 127 .access (s .invalid 0)).session 127).access = true
    ∧ (s .invalid 0).recordOf ((s .invalid 0).session 127) = (s .invalid 0).display 511
    ∧ ((s .invalid 0).display 511).assist = true := by decide +kernel

theorem witness_WithdrawalsByTimeOrClear :
    let s := waitingOn 2 (keypad Session.initial running)
    (s.session 127).state = .waiting ∧ (s.session 127).timer = some 0 ∧ s.dev.state = .running
    ∧ ((after (.answerTimeoutExpiry 127) s).session 127).state = .fallback
    ∧ ((after (.answerTimeoutExpiry 127) s).session 127).retiredTicket = 6
    ∧ ((after (.answerTimeoutExpiry 127) s).session 127).timer = some 5000
    ∧ ((after (.answerTimeoutExpiry 127) running).session 127).state = .idle
    ∧ ((applyKey 127 .clear s).session 127).state = .idle
    ∧ ((applyKey 127 .clear s).session 127).withdrawal = .clear := by decide +kernel

/-- Floor 253 is labelled 7, floor 0 is labelled 1; zone 31 is routed to route 2 or nowhere. -/
theorem witness_EnterRequestsADestination :
    let keyed (d : List Nat) (s : State) :=
      let one := tset s.clu.floorLabels 0 [0x31, 0x20, 0x20, 0x20]
      keypad { Session.initial with state := .entering, digits := d }
        (s.withClu { s.clu with floorLabels := tset one 253 [0x37, 0x20, 0x20, 0x20] })
    let off := attached (routed RouteEntry.initial)
    let on := off.setEntry 31 { mode := .single, target := 2, mask := 0, cursor := 0 }
    let wraps := keyed [7] (on.withDrq { on.drq with lastTicket := 65535 })
    (keyed [7] on).floorOf [7] = some 253 ∧ (keyed [7] on).floorOf [8] = none
    ∧ (keyed [1] on).floorOf [1] = some ((keyed [1] on).originOf ((keyed [1] on).session 127))
    ∧ ((applyKey 127 .enter (keyed [8] on)).session 127).state = .invalid
    ∧ ((applyKey 127 .enter (keyed [1] on)).session 127).state = .invalid
    ∧ ((applyKey 127 .enter (keyed [7] (routed RouteEntry.initial))).session 127).fallback = .detached
    ∧ ((applyKey 127 .enter (keyed [7] off)).session 127).fallback = .busy
    ∧ ((applyKey 127 .enter (keyed [7] on)).session 127).state = .waiting
    ∧ ((applyKey 127 .enter (keyed [7] on)).session 127).ticket = 1
    ∧ (keyed [7] on).drq.lastTicket < 65536 ∧ wraps.nextTicket = 1 := by decide +kernel

theorem witness_AnswersMatchTheirTicket :
    let s := waitingOn 2 (keypad Session.initial (attached running))
    let again := s.setSession 127 { s.session 127 with redirected := true }
    let body (ticket verdict car deck reason hold : Byte) : List Byte :=
      [ticket, 0, verdict, car, deck, reason, hold, 0, 0, 0, 0, 0]
    (takeAnswer 127 (body 6 1 7 1 0 30) s).2 = (.used, .unset)
    ∧ ((takeAnswer 127 (body 6 1 7 1 0 30) s).1.session 127).state = .showing
    ∧ ((takeAnswer 127 (body 6 1 7 1 0 30) s).1.session 127).timer = some 30000
    ∧ ((takeAnswer 127 (body 6 2 0 0 2 0) s).1.session 127).refusal = .restricted
    ∧ ((takeAnswer 127 (body 6 3 0 0 0 0) s).1.session 127).redirected = true
    ∧ ((takeAnswer 127 (body 6 3 0 0 0 0) again).1.session 127).fallback = .noAnswer
    ∧ (takeAnswer 127 (body 6 1 8 0 0 0) s).2 = (.rejected, .range)
    ∧ (takeAnswer 127 (body 5 3 0 0 0 0) s).2 = (.late, .unset)
    ∧ ((takeAnswer 127 (body 5 3 0 0 0 0) s).1.session 127).retiredKind = .reported
    ∧ (takeAnswer 127 (body 4 3 0 0 0 0) s).2 = (.late, .unset)
    ∧ ((takeAnswer 127 (body 4 3 0 0 0 0) s).1.session 127).retiredKind = .withdrawn := by decide +kernel

theorem witness_BlockCausesBlockSessions :
    let idle := keypad Session.initial running
    let waiting := waitingOn 2 idle
    let blocked := setBlockCause .evac 127 idle
    (idle.session 127).blockedBy .evac = false ∧ (blocked.session 127).state = .blocked
    ∧ (blocked.session 127).blockedBy .offline = false
    ∧ ((setBlockCause .offline 127 blocked).session 127).offline = true
    ∧ ((clearBlockCause .offline 127 (setBlockCause .offline 127 blocked)).session 127).state = .blocked
    ∧ ((clearBlockCause .evac 127 blocked).session 127).state = .idle
    ∧ ((setBlockCause .evac 127 waiting).session 127).retiredTicket = 6
    ∧ ((setBlockCause .evac 127 waiting).session 127).ticket = 0 := by decide +kernel

/-! ## Overrides, displays and compositions -/

theorem witness_FireLinesFormZones :
    let due (s : State) := s.setLine 3
      { FireLine.initial with pin := true, stable := 49, changeDue := true, mapMask := 0x80000001, mapItem := 4090,
                              resolved := 4090 }
    let held := (due running).setZone 31 { Zone.initial with hostPriority := .notice, hostItem := some 7 }
    let t := after (.fireLine 3) held
    (held.line 3).changeDue = true ∧ held.formsZones = true ∧ (held.line 3).mapMask.getLsbD 30 = false
    ∧ (t.line 3).asserted = true ∧ (t.zone 31).sources = [3] ∧ (t.zone 31).item = some 4090
    ∧ (t.zone 31).priority = .evacuate ∧ (t.zone 30).priority = .clear
    ∧ (t.zone 31).hostPriority = .notice
    ∧ (let up := t.setLine 3 { t.line 3 with pin := false, changeDue := true }
       ((after (.fireLine 3) up).zone 31).priority = .notice
       ∧ ((after (.fireLine 3) up).zone 31).item = some 7)
    ∧ (due State.reset).formsZones = false
    ∧ ((after (.fireLine 3) (due State.reset)).zone 31).sources = []
    ∧ ((after (.fireLine 3) running).line 3).asserted = false
    ∧ ((after (.firePinChange 3 true) running).line 3).pin = true := by decide +kernel

theorem witness_OverrideTakesSetTheHostPart :
    let gone := running.withDpm { Dpm.initial with presence := .detachedBoard }
    let sourced := (running.setZone 31 { Zone.initial with sources := [2] }).setLine 2
      { FireLine.initial with resolved := 4091 }
    takeOverride 31 [3, 0, 0xFF, 0x0F] running ≠ (running, .rejected, .range)
    ∧ (takeOverride 31 [4, 0, 0, 0] running).2 = (.rejected, .range)
    ∧ (takeOverride 31 [1, 0, 0, 0x10] running).2 = (.rejected, .range)
    ∧ (takeOverride 31 [0, 0, 0, 0x10] running).2 = (.accepted, .unset)
    ∧ ((takeOverride 31 [3, 0, 0xFF, 0x0F] running).1.zone 31).item = some 4095
    ∧ ((takeOverride 31 [2, 0, 5, 0] gone).1.zone 31).hostPriority = .clear
    ∧ ((takeOverride 31 [3, 0, 5, 0] gone).1.zone 31).hostPriority = .evacuate
    ∧ ((takeOverride 31 [1, 0, 5, 0] stopping).1.zone 31).priority = .clear
    ∧ stopping.formsZones = false
    ∧ ((takeOverride 31 [1, 0, 5, 0] sourced).1.zone 31).item = some 4091 := by
  refine ⟨fun h => ?_, ?_⟩
  · exact absurd (congrArg (fun p => p.2.1) h) (by decide)
  · decide +kernel

/-- The body of a display cell: kind, string, address, two binding bytes and a car place. -/
def displayBody (kind string address a b place : Byte) : List Byte :=
  [kind, string, address, 31, 0xFF, 0xFF, 15, 0, 1, a, b, place]

theorem witness_DisplayTakesBindOrRefuse :
    let other := running.setDisplay 0 { DisplayRecord.initial with
      status := .bound, binding := .keypad 127 9, string := 15, address := 31 }
    let t := (takeDisplay 511 (displayBody 2 15 31 7 253 0) running).1
    let k := (takeDisplay 511 (displayBody 4 15 31 127 253 0) running).1
    displayFields (displayBody 2 15 32 7 253 0) = none
    ∧ (takeDisplay 511 (displayBody 2 15 32 7 253 0) running).2 = (.rejected, .range)
    ∧ (takeDisplay 511 (displayBody 2 15 31 8 253 0) running).2 = (.rejected, .car)
    ∧ (takeDisplay 511 (displayBody 2 15 31 7 253 0) other).2 = (.rejected, .dupPanel)
    ∧ (takeDisplay 511 (displayBody 4 15 30 127 253 0) other).2 = (.rejected, .dupSlot)
    ∧ (takeDisplay 511 (displayBody 3 15 31 1 0 7) running).2 = (.accepted, .unset)
    ∧ t.lantern 511 = some (Lantern.initial 7 253) ∧ (t.comp 511).asked = some Ask.plain
    ∧ (t.string 15).schedule = [31]
    ∧ (k.session 127).bound = true ∧ (k.session 127).display = 511
    ∧ ((takeDisplay 511 (displayBody 0 0 0 0 0 0) k).1.session 127).bound = false
    ∧ ((takeDisplay 511 (displayBody 0 0 0 0 0 0) k).1.string 15).schedule = []
    ∧ ((takeDisplay 511 (displayBody 0 0 0 0 0 0) k).1.display 511) = DisplayRecord.initial := by
  decide +kernel

/-- A BOUND display 511 of zone 31 that awaits recomposition. -/
def asking (r : DisplayRecord) (z : Zone) (s : State) : State :=
  ((s.setDisplay 511 { r with status := .bound, zone := 31, string := 15, address := 31 }).setZone 31 z).setComp
    511 { Composition.initial with asked := some Ask.session, stamp := 65535 }

theorem witness_RecompositionBuildsThePlan :
    let r := { DisplayRecord.initial with binding := .free, enable := true, template := some 4089, timer := 15 }
    let plan (r : DisplayRecord) (z : Zone) (s : State) := ((after (.recompose 511) (asking r z s)).comp 511).plan
    let zone (p : Priority) (i : Nat) := { Zone.initial with priority := p, item := some i }
    let evac := { Plan.initial with item := 4093, timer := 15, brightness := 8 }
    (after (.recompose 511) running).comp 511 = Composition.initial
    ∧ ((after (.recompose 511) (running.setComp 511
        { Composition.initial with asked := some Ask.plain })).comp 511).asked = none
    ∧ plan { r with enable := false } Zone.initial running
        = { Plan.initial with timer := 15, brightness := 8 }
    ∧ plan r (zone .evacuate 5) running = evac ∧ plan r (zone .evacuate 4088) running = { evac with item := 4088 }
    ∧ plan r (zone .service 4095) (attached running) = { evac with item := 4095 }
    ∧ plan r (zone .service 4087) (attached running) = { evac with item := 4087, pending := true }
    ∧ plan r (zone .service 4095) running = { evac with item := 4089 }
    ∧ plan r (zone .notice 77) (attached running) = { evac with item := 4089, banner := some 77 }
    ∧ plan { r with brightness := 15 } Zone.initial running = { evac with item := 4089, brightness := 15 }
    ∧ plan r Zone.initial (running.setPanel 511 { Panel.initial with light := some 255 })
        = { evac with item := 4089, brightness := 15 }
    ∧ ((after (.recompose 511) (asking r Zone.initial running)).comp 511).stamp = 0
    ∧ (after (.recompose 511) (asking r (zone .evacuate 5) running)).cst.queue.length = 1 := by
  decide +kernel

/-! ## The Content Store -/

/-- Slot 63 (set 3, way 15) in a fill of item 3 that the engine has started. -/
def filling (e : FillEntry) (x : Slot) (s : State) : State :=
  flying (.fill 63 3) ((s.setSlot 63 x).setQueue [e])

theorem witness_FillsCompleteOrFault :
    let e : FillEntry := { slot := 63, item := 3, refill := false, preFill := false, started := true }
    let x := { Slot.initial with state := .filling, item := some 3 }
    let v := { x with state := .valid, bytes := [1], length := 1, pinned := true }
    let s := filling e x running
    let re := filling { e with refill := true } v running
    let got : FillRead := .read 0 2 [8, 9]
    let covers := s.withCst { s.cst with windows := tset s.cst.windows 3 { valid := true, base := 3, mask := 0xFFF } }
    s.flies (.fill 63 3) ∧ startedEntry s.cst.queue = some e
    ∧ (after (.fill got) s).slot 63 = { x with state := .valid, bytes := [8, 9], length := 2 }
    ∧ (after (.fill got) s).cst.queue = [] ∧ (after (.fill got) s).cst.fills = 1
    ∧ tget (after (.fill got) s).cst.recency 3 [] = [15]
    ∧ ((after (.fill got) covers).slot 63).pinned = true
    ∧ (after (.fill got) re).slot 63 = { v with bytes := [8, 9], length := 2 }
    ∧ (after (.fill .busError) re).slot 63 = v ∧ (after (.fill .busError) re).cause = 0x1000
    ∧ (after (.fill (.read 0 241 [])) s).slot 63 = Slot.initial
    ∧ (after (.fill (.read 0 0 [])) s).cst.badIds = [{ item := 3, remaining := 1000 }]
    ∧ (after (.fill got) (filling e { x with refetch := true } running)).slot 63 = x
    ∧ (after (.fill got) (filling e { x with refetch := true } running)).cst.queue = [{ e with started := false }]
    ∧ (after (.fill got) (filling { e with preFill := true } x (inState .loading .preFill))).dev.load
        = .firstScan := by
  refine ⟨flying_flies _ _, ?_⟩; decide +kernel

theorem witness_QuarantineEndsInRelease :
    let bad (n : Nat) (s : State) := (s.withCst { s.cst with badIds := [{ item := 3, remaining := n }] })
    let waits := (bad 0 (asking { DisplayRecord.initial with enable := true } Zone.initial running)).setComp 511
      { Composition.initial with wait := .release 3 }
    (after (.quarantineExpiry 3) waits).cst.badIds = []
    ∧ ((after (.quarantineExpiry 3) waits).comp 511).asked = some Ask.plain
    ∧ (after (.quarantineExpiry 3) (bad 1 running)).cst.badIds.length = 1
    ∧ (after (.quarantineExpiry 3) (bad 0 State.reset)).cst.badIds.length = 1 := by decide +kernel

theorem witness_LookupsAnswerByTheFirstCase :
    let answer (i : Nat) (s : State) := (lookupItem i false s).2
    let held (st : SlotState) := running.setSlot 63 { Slot.initial with state := st, item := some 3 }
    let full (s : State) := s.withCst { s.cst with
      slots := tbuild 64 fun i => { Slot.initial with state := .valid, item := some (100 + i), pinned := i % 16 == 15 },
      recency := Vector.replicate 4 [3, 7, 15] }
    let bad := running.withCst { running.cst with badIds := [{ item := 3, remaining := 9 }] }
    answer 3 (held .valid) = .hit ∧ answer 3 (held .filling) = .missTaken
    ∧ tget (lookupItem 3 false (held .valid)).1.cst.recency 3 [] = [15]
    ∧ answer 3 bad = .faultAtOnce ∧ answer 3 stopping = .missRefused
    ∧ answer 4087 running = .missTaken ∧ ((lookupItem 4087 false running).1.slot 48).state = .filling
    ∧ (full running).victim 3 = some 55
    ∧ ((full running).withCst { (full running).cst with recency := Vector.replicate 4 [15] }).victim 3 = none
    ∧ answer 0 (running.setQueue (List.replicate 8
        { slot := 1, item := 4, refill := false, preFill := false, started := false })) = .missRefused
    ∧ (lookupItem 3 false stopping).1.cst.misses = 1 := by decide +kernel

/-! ## The String Controllers -/

/-- String S15 in a state, with panel 31 on its schedule. -/
def onString (x : PanelString) (s : State) : State := s.setString 15 { x with schedule := [31] }

/-- A powered string. -/
def powered (st : StringState) : PanelString :=
  { PanelString.initial with state := st, supply := true, driver := true, settings :=
    { StringSettings.initial with runRequest := true, replyTimeout := 7, threshold := 3, probeInterval := 4 } }

/-- Display 511 a BOUND FREE display on panel S15/31, whose plan shows item 4089 with stamp 5. -/
def shown (p : Panel) (s : State) : State :=
  ((s.setDisplay 511 { DisplayRecord.initial with
    status := .bound, binding := .free, string := 15, address := 31, enable := true }).setComp 511
    { Composition.initial with plan := { Plan.initial with item := 4089 }, stamp := 5 }).setPanel 511 p

theorem witness_SupplyFaultCutsTheString :
    let s (n : Nat) (d : DeviceState) := onString { powered .running with faults := n, urgent := [31] }
      (shown { Panel.initial with health := .offline, misses := 3 } (inState d .outside))
    ((after (.supplyFault 15) (s 3 .running)).string 15).state = .faultLocked
    ∧ ((after (.supplyFault 15) (s 2 .running)).string 15).state = .fault
    ∧ ((after (.supplyFault 15) (s 3 .stopping)).string 15).hold = some 5000
    ∧ ((after (.supplyFault 15) (s 4 .stopping)).string 15).faults = 4
    ∧ (after (.supplyFault 15) (s 0 .running)).panel 511 = Panel.initial
    ∧ ((after (.supplyFault 15) (s 0 .running)).string 15).urgent = []
    ∧ (after (.supplyFault 15) (s 0 .running)).cause = 0x0800
    ∧ ((after (.supplyFault 15) running).string 15).state = .off := by decide +kernel

theorem witness_StringsComeUpAndPark :
    let st (x : PanelString) (d : DeviceState) := onString x (inState d .outside)
    let empty (x : PanelString) := running.setString 15 x
    let waking := { powered .waking with line := .sending .wake (telegram 0 .wake 0 []) none }
    let parking := { powered .parking with line := .sending .sleep (telegram 0 .sleep 0 []) none, faults := 2 }
    let up := st { powered .powering with settle := some 0 } .running
    ((after (.settleExpiry 15) up).string 15).line = .sending .wake (telegram 0 .wake 0 []) none
    ∧ ((after (.settleExpiry 15) (st { powered .powering with settle := some 1 } .running)).string 15).state
        = .powering
    ∧ ((after (.wakeSent 15) (st waking .running)).string 15).wake = some 10
    ∧ ((after (.wakeSent 15) (st { waking with parkOwed := true } .running)).string 15).state = .parking
    ∧ ((after (.wakeTimeExpiry 15) (st { powered .waking with wake := some 0 } .running)).string 15).state
        = .enumerating
    ∧ ((after (.wakeTimeExpiry 15) (empty { powered .waking with wake := some 0, faults := 3 })).string 15)
        = { powered .running with sweepNumber := 1, syncPending := true, sweepTimer := some 10, completed := 1 }
    ∧ (after (.sleepSent 15) (st parking .stopping)).string 15
        = { parking with state := .off, supply := false, driver := false, line := .free, faults := 0,
                         schedule := [31] }
    ∧ ((after (.sleepSent 15) (st parking .running)).string 15).state = .powering
    ∧ ((after (.faultHoldExpiry 15) (st { PanelString.initial with state := .fault, hold := some 0 } .running)).string
        15).state = .off
    ∧ ((after (.faultHoldExpiry 15) (st { powered .fault with hold := some 0, faults := 2 } .running)).string
        15).faults = 2
    ∧ ((after (.faultHoldExpiry 15) (st { powered .fault with hold := some 1 } .running)).string 15).state
        = .fault := by decide +kernel

theorem witness_SyncsAndTelegramEnds :
    let s := onString { powered .running with syncPending := true }
      (running.setChannel 15 { Channel.initial with phase := true })
    let v : Visit := { address := 31, command := .poll, origin := .slot, stamp := 5, stayed := true }
    ((after (.sync 15) s).string 15).line = .sending .sync (telegram 0 .sync 0 [0, 0x80]) none
    ∧ ((after (.sync 15) s).string 15).syncPending = false
    ∧ ((after (.sync 15) running).string 15).line = .free
    ∧ ((after (.telegramSent 15) (after (.sync 15) s)).string 15).line = .free
    ∧ ((after (.telegramSent 15) (onString { powered .running with line := .sending .poll [] (some v) } running)).string
        15).line = .window v [] 7 7
    ∧ telegram 31 .poll 3 [] = [0x11F, 2, 3, 0, 0, (crc8 [31, 2, 3, 0, 0]).setWidth 9]
    ∧ crc8 [0x31, 0x32, 0x33, 0x34, 0x35, 0x36, 0x37, 0x38, 0x39] = 0xF4 := by decide +kernel

theorem witness_VisitsBeginByTheTable :
    let s (p : Panel) (x : PanelString) := onString x (shown p running)
    let present := { Panel.initial with health := .present, keyAck := 3 }
    let urgent := { powered .running with urgent := [31] }
    let sweep : Sweep := { slots := [{ address := 31, status := .ready }], probe := true, halt := false }
    let missing := (s present urgent).setComp 511
      { Composition.initial with plan := { Plan.initial with item := 517 }, stamp := 5 }
    (s present urgent).nextVisit 15 = some (31, .urgent) ∧ (s present urgent).holder 15 31 = some 511
    ∧ (s present { powered .draining with sweep := some sweep }).nextVisit 15 = some (31, .slot)
    ∧ (s present { urgent with syncPending := true }).nextVisit 15 = none
    ∧ (s present (powered .enumerating)).nextVisit 15 = some (31, .pass)
    ∧ (s present urgent).visitCommand 15 31 511 = .show
    ∧ (s { present with shown := some 5 } urgent).visitCommand 15 31 511 = .poll
    ∧ (s Panel.initial urgent).visitCommand 15 31 511 = .enumerate
    ∧ missing.visitCommand 15 31 511 = .poll
    ∧ ((after (.poll 15) missing).comp 511).asked = some Ask.plain
    ∧ ((after (.showPlan 15) (s { present with shown := some 4 } urgent)).string 15).urgent = []
    ∧ ((after (.showPlan 15) (s Panel.initial urgent)).string 15).line = .free
    ∧ ((after (.enumerate 15) (s Panel.initial (powered .enumerating))).string 15).visited = 31
    ∧ ((after (.enumerate 15) (s Panel.initial (powered .enumerating))).string 15).line
        = .sending .enumerate (telegram 31 .enumerate 0 [])
          (some { address := 31, command := .enumerate, origin := .pass, stamp := 5, stayed := true }) := by
  decide +kernel

/-- A reply of ten bytes from panel 31: kind, type, keys byte, first key and light level. -/
def replyBytes (kind type keys key light : Byte) : List Byte :=
  [31, kind, type, keys, key, 0, 0, 0, light, crc8 [31, kind, type, keys, key, 0, 0, 0, light]]

/-- The characters of a reply. -/
def replyChars (b : List Byte) : List LineChar := b.map fun x => { data := x, marker := false, stop := true }

/-- The reply window of a visit to panel S15/31. -/
def window (v : Visit) (got : List Byte) (remaining : Nat) : PanelString :=
  { powered .running with line := .window v got 7 remaining, urgent := [31] }

theorem witness_GoodRepliesMoveThePanel :
    let v : Visit := { address := 31, command := .show, origin := .urgent, stamp := 4, stayed := true }
    let e : Visit := { v with command := .enumerate }
    let s (v : Visit) (p : Panel) := onString (window v [] 7) (shown p running)
    let old := { Panel.initial with health := .degraded, misses := 2, keyAck := 15, light := some 3 }
    replyFields 31 .show (replyBytes 1 5 0x11 9 255)
        = some { type := 5, sequence := 1, keys := [.digit 9], light := 255 }
    ∧ (s v old).holder 15 31 = some 511
    ∧ (after (.panelReply 15 (replyChars (replyBytes 1 5 0x11 9 255))) (s v old)).panel 511
        = { health := .present, misses := 0, shown := some 4, keyAck := 1, light := some 255 }
    ∧ ((after (.panelReply 15 (replyChars (replyBytes 1 5 0 0 3))) (s v old)).panel 511).keyAck = 15
    ∧ (after (.panelReply 15 (replyChars (replyBytes 2 5 0 0 0))) (s e { old with health := .offline, shown := some 9 })).panel
        511 = { health := .present, misses := 0, shown := none, keyAck := 15, light := some 0 }
    ∧ ((after (.panelReply 15 (replyChars (replyBytes 2 4 0 0 0))) (s e old)).display 511).status = .rejectedType
    ∧ (after (.panelReply 15 (replyChars (replyBytes 2 4 0 0 0))) (s e old)).panel 511 = old
    ∧ ((after (.panelReply 15 (replyChars (replyBytes 2 4 0 0 0))) (s e old)).string 15).schedule = [] := by
  decide +kernel

theorem witness_FailuresMoveThePanel :
    let v : Visit := { address := 31, command := .poll, origin := .slot, stamp := 4, stayed := true }
    let s (v : Visit) (n : Nat) (p : Panel) := onString (window v [] n) (shown p running)
    let p (h : Health) (n : Nat) := { Panel.initial with health := h, misses := n }
    (after (.replyTimeout 15) (s v 0 (p .present 0))).panel 511 = p .degraded 1
    ∧ (after (.replyTimeout 15) (s v 0 (p .degraded 2))).panel 511 = p .offline 3
    ∧ ((after (.replyTimeout 15) (s v 0 (p .degraded 2))).string 15).urgent = []
    ∧ (after (.replyTimeout 15) (s v 0 (p .unseen 0))).panel 511 = p .offline 3
    ∧ (after (.replyTimeout 15) (s v 0 (p .offline 7))).panel 511 = p .offline 7
    ∧ (after (.replyTimeout 15) (s v 1 (p .present 0))).panel 511 = p .present 0
    ∧ (after (.replyTimeout 15) (s { v with stayed := false } 0 (p .present 0))).panel 511 = p .present 0
    ∧ (after (.panelReply 15 [{ data := 31, marker := true, stop := true }]) (s v 7 (p .present 0))).panel 511
        = p .degraded 1
    ∧ ((after (.panelReply 15 [{ data := 31, marker := false, stop := true }]) (s v 2 (p .present 0))).string
        15).line = .window v [31] 7 7 := by decide +kernel

theorem witness_SweepsStartOrOverrun :
    let x := { powered .running with sweepTimer := some 0 }
    let s (x : PanelString) (h : Health) := onString x (running.setPanel 511 { Panel.initial with health := h })
    let sweep : Sweep := { slots := [{ address := 31, status := .ready }], probe := false, halt := true }
    ((after (.sweepIntervalExpiry 15) (s x .present)).string 15).sweep
        = some { slots := [{ address := 31, status := .ready }], probe := false, halt := false }
    ∧ ((after (.sweepIntervalExpiry 15) (s x .offline)).string 15).completed = 1
    ∧ ((after (.sweepIntervalExpiry 15) (s { x with sweepNumber := 3 } .offline)).string 15).sweep
        = some { slots := [{ address := 31, status := .ready }], probe := true, halt := false }
    ∧ ((after (.sweepIntervalExpiry 15) (s { x with sweep := some sweep } .present)).string 15).overruns = 1
    ∧ ((after (.sweepIntervalExpiry 15) (s { x with state := .draining, sweep := some sweep } .present)).string
        15).sweepTimer = none
    ∧ ((after (.sweepIntervalExpiry 15) (s { x with sweepTimer := some 1 } .present)).string 15).sweep = none
    ∧ ((sweep.slotDone 30 .noReply).slots.map (·.status)) = [.skipped] := by decide +kernel

/-! ## The Cadence Timers -/

theorem witness_CadenceTicksCountOnce :
    let ch : Channel := { Channel.initial with
      settings := { ChannelSettings.initial with reload := 4, compare := 1 }, running := true, count := 2, owed := 1 }
    let s (x : Channel) := (onString (powered .running) running).setChannel 14 x
    (s ch).tickDue 14 = true ∧ running.tickDue 15 = false
    ∧ (after (.cadenceTick 14) (s ch)).channel 14 = { ch with count := 1, phase := true, owed := 0 }
    ∧ ((after (.cadenceTick 14) (s ch)).string 15).syncPending = true
    ∧ ((after (.cadenceTick 14) (s { ch with count := 3 })).string 15).syncPending = false
    ∧ (after (.cadenceTick 14) (s { ch with count := 0, phase := true, pending := .stop })).channel 14
        = { ch with count := 4, owed := 0, running := false }
    ∧ (after (.cadenceUnderflow 14) (s { ch with count := 0 })).channel 14 = { ch with count := 4, owed := 0 }
    ∧ (after (.cadenceUnderflow 14) (s ch)).channel 14 = ch
    ∧ (after (.cadenceTick 14) (s { ch with running := false })).channel 14
        = { ch with running := false, owed := 0 }
    ∧ (let pair := s { ch with settings := { ch.settings with cascade := true } }
       ((after (.cadenceTick 14) pair).channel 15).phase = true) := by decide +kernel

/-! ## Invariants -/

/-- Every table of the state after reset gives its initial entry. -/
theorem reset_lemma : (∀ r, State.reset.route r = Route.initial)
    ∧ (∀ k, State.reset.string k = PanelString.initial) ∧ (∀ n, State.reset.session n = Session.initial) :=
  ⟨fun r => tget_replicate (n := 8) r Route.initial,
   fun k => tget_replicate (n := 16) k PanelString.initial,
   fun n => tget_replicate (n := 128) n Session.initial⟩

theorem witness_QueuesKeepTheirBounds : queuesBounded State.reset ∧ ∃ t, step State.reset = .next t := by
  refine ⟨⟨fun r => ?_, by decide, by decide, fun k => ?_⟩, _, rfl⟩
  · rw [reset_lemma.1 r]; decide
  · rw [reset_lemma.2.1 k]; decide

theorem witness_RoutingStaysValid :
    routingValid (routed { mode := .rotate, target := 9, mask := 1, cursor := 7 })
    ∧ ∃ t, step (routed { mode := .rotate, target := 9, mask := 1, cursor := 7 }) = .next t :=
  ⟨routed_valid _ (by decide), _, rfl⟩

theorem witness_TicketsStayDistinct : ticketLaw State.reset ∧ ∃ t, step State.reset = .next t := by
  refine ⟨⟨by decide, fun n => ?_, fun n m h => ?_⟩, _, rfl⟩
  · rw [reset_lemma.2.2 n]; decide
  · rw [reset_lemma.2.2 n] at h; exact absurd rfl h

/-! ## Clauses beside the first witness of a statement -/

/-- Every timer that one tick moves, a sampled pin, and the ticks channels owe: a 10 ms source at a multiple of 10
and off it, an upper channel of a pair, and one that stands (R22, R111, R168). -/
theorem witness_EmptyQueuePassesOneTick_moves :
    let v : Visit := { address := 31, command := .poll, origin := .slot, stamp := 5, stayed := true }
    let ch (source : TickSource) (cascade : Bool) : Channel := { Channel.initial with
      running := true, settings := { ChannelSettings.initial with source := source, cascade := cascade } }
    let s (time : Word32) (d : DeviceState) : State :=
      let base := inState d .outside
      let a := (lit { Lantern.initial 3 9 with state := .arriving, remaining := some 2 }
        (base.withDev { base.dev with time := time })).setSession 127 { Session.initial with timer := some 1 }
      let x := { window v [] 3 with settle := some 4, wake := some 5, hold := some 6, sweepTimer := some 0 }
      let b := (a.setString 15 x).setLine 3 { FireLine.initial with pin := true, stable := 49 }
      let c := ((b.setChannel 14 (ch .ms10 true)).setChannel 15 (ch .ms1 false)).setChannel 13
        { Channel.initial with owed := 3 }
      let e := (c.withScan { c.scan with timer := some 9 }).withEru { c.eru with requestHold := 8 }
      (e.withDpm { e.dpm with timer := some 7 }).withCst
        { e.cst with badIds := [{ item := 3, remaining := 1 }] }
    let t := deviceTick (s 99 .running)
    t.scan.timer = some 8 ∧ t.eru.requestHold = 7 ∧ t.dpm.timer = some 6
    ∧ t.cst.badIds = [{ item := 3, remaining := 0 }]
    ∧ (t.lantern 511).map (·.remaining) = some (some 1) ∧ (t.session 127).timer = some 0
    ∧ (t.string 15).line = .window v [] 7 2 ∧ (t.string 15).settle = some 3
    ∧ (t.string 15).sweepTimer = some 0 ∧ (t.line 3).changeDue = true ∧ (t.line 2).stable = 0
    ∧ (t.channel 14).owed = 1 ∧ (t.channel 15).owed = 0 ∧ (t.channel 13).owed = 0
    ∧ ((deviceTick (s 100 .running)).channel 14).owed = 0
    ∧ (deviceTick (s 99 .stopping)).scan.timer = some 9 ∧ (deviceTick (s 99 .stopping)).dpm.timer = some 6
    ∧ (deviceTick (s 99 .idle)).dpm.timer = some 7
    ∧ (deviceTick (s 99 .idle)).cst.badIds = [{ item := 3, remaining := 1 }]
    ∧ ((deviceTick (s 99 .idle)).channel 14).owed = 0 := by decide +kernel

/-- What START clears of the scanner, the strings and the Content Store (R30, R35, R122, R124, R138). -/
theorem witness_StartClearsThePart_counts :
    let y := { StringSettings.initial with runRequest := true }
    let x := { PanelString.initial with faults := 3, overruns := 4, completed := 5, schedule := [31], settings := y }
    let r := State.reset
    let e : FillEntry := { slot := 1, item := 4, refill := false, preFill := false, started := false }
    let c := { r.cst with fills := 2, misses := 3, recency := Vector.replicate 4 [1], queue := [e], purgeSerial := 9 }
    let s := ((r.setString 15 x).withCst c).withScan { r.scan with
      taken := tset r.scan.taken 671 5, torn := tset r.scan.torn 671 6, seen := tset r.scan.seen 20 (some 7),
      liveTaken := 8, liveTorn := 2 }
    let t := after (.run true) s
    tget t.scan.taken 671 1 = 0 ∧ tget t.scan.torn 671 1 = 0 ∧ tget t.scan.seen 20 (some 1) = none
    ∧ t.scan.liveTaken = 0 ∧ t.scan.liveTorn = 0 ∧ t.cst.fills = 0 ∧ t.cst.misses = 0 ∧ t.cst.queue = []
    ∧ tget t.cst.recency 3 [] = [] ∧ t.cst.purgeSerial = 9
    ∧ t.string 15 = { PanelString.initial with settings := { StringSettings.initial with runRequest := true } } := by
  decide +kernel

/-- The fourth failure of a discarded sequence in IDLE and in STOPPING (R41, R175). -/
theorem witness_SequenceEndsFreeThePort_idle :
    let s (d : DeviceState) := (attached (inState d .outside)).withPort { Port.initial with
      failures := 3, inFlight := some { access := .supplyRead, ops := [], discarded := true } }
    let t := after (.supplyCountRead none) (s .idle)
    t.dpm.presence = .attached ∧ t.port.boardLost = true ∧ t.cause = 0x0400
    ∧ (after (.supplyCountRead none) (s .stopping)).dpm.presence = .detachedBoard := by decide +kernel

/-- The capture of a record of each kind at the mirror writer's grant, at the bounds of its range, and a search
that wraps (R37, R39). -/
theorem witness_FailedMirrorWriteStaysDirty_capture :
    let s (i : Nat) := running.withMir { running.mir with dirty := tset running.mir.dirty i true, next := i }
    let ops (i : Nat) := ((after .portGrant (s i)).port.inFlight.map (·.ops)).getD []
    let at_ (i : Nat) : List (BitVec 64) := (ops i).map fun op => match op with
      | .write a _ => a
      | .read a _ => a
    let wrap (i : Nat) := (s i).withMir { (s i).mir with next := 1400 }
    (∀ b ∈ claimants, (startClaim b (s 1399)).isSome = true → b = .mirrorWriter)
    ∧ at_ 0 = [0x6000] ∧ at_ 511 = [0x6FF8] ∧ at_ 512 = [0x7000] ∧ at_ 639 = [0x73F8] ∧ at_ 640 = [0x7400]
    ∧ at_ 671 = [0x74F8] ∧ at_ 799 = [0x7BF8] ∧ at_ 863 = [0x83F0, 0x83F4, 0x83FC] ∧ at_ 1375 = [0x8BFC]
    ∧ at_ 1391 = [0x8CF0] ∧ at_ 1399 = [0x8DE0, 0x8DE4, 0x8DFC]
    ∧ ops 1400 = [.write 0x8E00 (List.replicate 32 0)]
    ∧ ops 863 = [.write 0x83F0 [1, 0, 0, 0], .write 0x83F4 [0, 0xFF, 0xFF, 0, 0, 0, 0, 0],
        .write 0x83FC [1, 0, 0, 0]]
    ∧ tget (after .portGrant (s 1399)).mir.routeWrites 7 0 = 1
    ∧ tget (after .portGrant (s 1399)).mir.dirty 1399 false = false
    ∧ (after .portGrant (s 1399)).mir.next = 1400 ∧ (after .portGrant (s 1400)).mir.next = 0
    ∧ (after .portGrant (s 1399)).port.lastGranted = .mirrorWriter
    ∧ (after .portGrant (wrap 0)).port.inFlight.map (·.access) = some (.mirrorWrite 0) := by decide +kernel

/-- A device record captured in an outage carries its count and is dirty again after its success (log 45). -/
theorem test_device_record_ends_an_outage :
    let s := (running.withMir { running.mir with dirty := tset running.mir.dirty 1400 true, next := 1400 }).withPort
      { Port.initial with failures := 5, boardLost := true }
    let t := after (.mirrorWrite true) (after .portGrant s)
    ((after .portGrant s).port.inFlight.map fun f => f.ops.map fun op => match op with
      | .write _ b => byteAt b 21
      | .read _ _ => 0) = some [(5 : Byte)]
    ∧ t.port.boardLost = false ∧ tget t.mir.dirty 1400 false = true := by decide +kernel

/-- Counter reads of the first scan (R35). -/
theorem witness_CounterReadPassesOrBegins_first :
    let s (a : Area) (g : Nat) := flying (.counterRead a g) (scanning (.counter a g) (inState .loading .firstScan))
    (s .answers 19).flies (.counterRead .answers 19) ∧ (s .cells 15).dev.state = .loading
    ∧ tget (s .answers 19).scan.seen 19 none = none
    ∧ (after (.groupCounterRead (some 5)) (s .cells 15)).scan.place = some (.cell .cells 15 0 5 true)
    ∧ (after (.groupCounterRead (some 5)) (s .answers 19)).scan.place = some (.seed 19 0)
    ∧ tget (after (.groupCounterRead (some 5)) (s .answers 19)).scan.seen 19 none = some 5
    ∧ (after (.groupCounterRead none) (s .overrides 20)).dev.startFault = .bus := by
  refine ⟨flying_flies _ _, ?_⟩; decide +kernel

/-- Where a scan goes after a take in each device state, and after a bus error (R24, R32, R35, R36). -/
theorem witness_CellTakeIsSorted_goes_on :
    let s (d : DeviceState) (a : Area) (g i : Nat) := flying (.cellTake a (g * 32 + i))
      (scanning (.cell a g i 5 true) (inState d .firstScan))
    let burst (tail : Byte) : List Byte := List.replicate 8 0 ++ [tail, 0, 0, 0]
    let clean := Instr.cellTake (.read 0 (burst 0) 0)
    let torn := Instr.cellTake (.read 0 (burst 1) 0)
    (s .loading .overrides 20 31).flies (.cellTake .overrides 671)
    ∧ (after clean (s .running .cells 15 30)).scan.place = some (.cell .cells 15 31 5 true)
    ∧ (after torn (s .running .cells 15 30)).scan.place = some (.cell .cells 15 31 5 false)
    ∧ (after clean (s .running .cells 14 31)).scan.place = some (.counter .cells 15)
    ∧ tget (after clean (s .running .cells 14 31)).scan.seen 14 none = some 5
    ∧ (after clean (s .stopping .cells 14 31)).scan.place = none
    ∧ tget (after clean (s .stopping .cells 14 31)).scan.seen 14 none = some 5
    ∧ tget (after clean (s .stopping .cells 14 30)).scan.seen 14 none = none
    ∧ (after clean (s .loading .cells 15 31)).scan.place = some (.counter .answers 16)
    ∧ (after clean (s .loading .answers 19 31)).scan.place = some (.counter .overrides 20)
    ∧ (after clean (s .loading .overrides 20 31)).dev.state = .running
    ∧ (after (.cellTake .busError) (s .running .cells 15 30)).scan.place = some (.cell .cells 15 31 5 false)
    ∧ (after (.cellTake .busError) (s .running .cells 14 31)).scan.place = some (.counter .cells 15)
    ∧ tget (after (.cellTake .busError) (s .running .cells 14 31)).scan.seen 14 none = none
    ∧ (after (.cellTake .busError) (s .stopping .cells 14 31)).scan.place = none
    ∧ (after (.cellTake .busError) (s .loading .overrides 20 31)).dev.startFault = .bus := by
  refine ⟨flying_flies _ _, ?_⟩; decide +kernel

/-- The entry to RUNNING with nudges taken in LOADING, cars, and strings (R34, R45, R138, R176). -/
theorem witness_SeedsAndSupplyCountAreHeld_entry :
    let off (run : Bool) := { PanelString.initial with
      settings := { StringSettings.initial with runRequest := run }, schedule := [31] }
    let base := ((((inState .loading .firstScan).setString 15 (off true)).setString 0 (off false)).setPanel 511
      { Panel.initial with health := .present }).setCar 7 { Car.initial with state := .fresh, lastTime := 3 }
    let s := after .nudgeSupply (after .nudgeAnswers base)
    let t := enterRunning s
    t.dev.state = .running ∧ t.dev.load = .outside ∧ t.dpm.timer = some 100 ∧ t.scan.timer = some 20
    ∧ (t.car 7).lastTime = 3 ∧ (t.car 63).lastTime = 100000
    ∧ t.scan.place = some (.counter .answers 16) ∧ t.scan.lastScanned = .answers
    ∧ t.scan.area .answers = { phase := .inFlight, rescan := false }
    ∧ t.scan.area .supply = { phase := .requested, rescan := false }
    ∧ t.scan.area .cells = { phase := .idle, rescan := false }
    ∧ (t.string 15).state = .powering ∧ (t.string 15).supply = true ∧ t.panel 511 = Panel.initial
    ∧ (t.string 0).state = .off ∧ (enterRunning base).scan.place = none
    ∧ (enterRunning (base.withHdr { base.hdr with scanInterval := 0 })).scan.timer = none := by decide +kernel

/-- A live take's bus error in RUNNING, and the takes of step 5 of LOADING (R23, R28, R36). -/
theorem witness_LiveTakeAppliesWholeOrNothing_loading :
    let s := flying .liveTake (running.withScan (Scanner.start .live running.scan))
    let quick := s.withHdr { s.hdr with scanInterval := 0 }
    let l := flying .liveTake ((inState .loading .live).setLine 0 { FireLine.initial with asserted := true })
    let t := after (.liveTake (.read 0 (liveBurst 0 0x11 0) 0)) l
    (after (.liveTake .busError) s).scan.liveRetry = true ∧ (after (.liveTake .busError) s).scan.liveTorn = 0
    ∧ ((after (.liveTake .busError) quick).scan.area .live).phase = .inFlight
    ∧ l.flies .liveTake ∧ t.dev.load = .floorLabels ∧ t.scan.liveVerdict = .accepted
    ∧ (t.string 15).settings.threshold = 1 ∧ (t.string 0).state = .off ∧ (t.string 0).settings.runRequest = true
    ∧ (t.line 0).asserted = true ∧ (t.zone 0).sources = []
    ∧ (after (.liveTake (.read 2 (liveBurst 0 0x01 2) 2)) l).dev.startFault = .range
    ∧ (after (.liveTake (.read 2 (liveBurst 0 0x01 2) 2)) l).scan.liveTaken = 2
    ∧ (after (.liveTake (.read 2 (liveBurst 1 0x11 2) 2)) l).dev.startFault = .routing
    ∧ (after (.liveTake (.read 2 (liveBurst 0 0x11 2) 3)) l).scan.liveTaken = 0
    ∧ (after (.liveTake .busError) l).cause = 0x2000 := by
  refine ⟨by decide +kernel, by decide +kernel, by decide +kernel, flying_flies _ _, ?_⟩; decide +kernel

/-- A cell take in flight holds STOPPING_END back, a discarded one does not (R24). -/
theorem witness_StoppingEndsAtRest_take :
    let s := flying (.cellTake .cells 511) (scanning (.cell .cells 15 31 5 true)
      (stopping.withDev { stopping.dev with stopLost := true }))
    s.flies (.cellTake .cells 511) ∧ (after .stoppingEnd s).dev.state = .stopping
    ∧ (after .stoppingEnd (after (.cellTake .busError) s)).dev.state = .idle
    ∧ (after .stoppingEnd (discardFlight s)).dev.state = .idle := by
  refine ⟨flying_flies _ _, ?_⟩; decide +kernel

/-- Each cause of a BLOCKED session cleared, alone and beside the other (R81). -/
theorem witness_BlockCausesBlockSessions_cleared :
    let s (evac offline : Bool) := keypad { Session.initial with
      state := .blocked, evac := evac, offline := offline } running
    ((s true false).session 127).blockedBy .evac = true
    ∧ (clearBlockCause .evac 127 (s true false)).session 127 = { Session.initial with bound := true, display := 511 }
    ∧ ((clearBlockCause .evac 127 (s true true)).session 127).state = .blocked
    ∧ ((clearBlockCause .offline 127 (s true true)).session 127).state = .blocked
    ∧ ((clearBlockCause .offline 127 (s false true)).session 127).state = .idle
    ∧ tget (clearBlockCause .offline 127 (s false true)).mir.dirty 799 false = true := by decide +kernel

/-- The fifty samples of R111, the offer where zones are formed, and the four cases of a fire map entry (R114). -/
theorem witness_FireLinesFormZones_samples :
    let l := { FireLine.initial with pin := true }
    let e (item : Nat) (s : State) := (changeFireMap (Vector.replicate 4 (0x80000000, item))
      s.cst.windows s.cst.windows s).line 3
    let covers := running.withCst { running.cst with
      windows := tset running.cst.windows 3 { valid := true, base := 3, mask := 0xFFF } }
    let old := { FireLine.initial with resolved := 4093, substituted := true, mapItem := 3 }
    let asserted := running.setLine 3 { FireLine.initial with asserted := true }
    let due := (routed { mode := .single, target := 2, mask := 0, cursor := 0 }).setEntry 38
      { mode := .single, target := 2, mask := 0, cursor := 0 }
    l.changeDue = false ∧ l.pin ≠ l.asserted ∧ (Nat.repeat FireLine.sample 49 l).changeDue = false
    ∧ (Nat.repeat FireLine.sample 50 l).changeDue = true
    ∧ e 3 (covers.setLine 3 old) = { old with mapMask := 0x80000000 }
    ∧ e 4088 running = { FireLine.initial with mapMask := 0x80000000, mapItem := 4088, resolved := 4088 }
    ∧ e 4087 running = { FireLine.initial with
        mapMask := 0x80000000, mapItem := 4087, resolved := 4093, substituted := true }
    ∧ e 3 covers = { FireLine.initial with mapMask := 0x80000000, mapItem := 3, resolved := 3 }
    ∧ (changeFireMap (Vector.replicate 4 (0, 3)) covers.cst.windows covers.cst.windows covers).cst.queue.length = 1
    ∧ tget (changeFireMap (Vector.replicate 4 (0, 5)) covers.cst.windows covers.cst.windows covers).mir.dirty 1400
        false = true
    ∧ ((changeFireMap (Vector.replicate 4 (0x80000000, 4088)) covers.cst.windows covers.cst.windows asserted).zone
        31).item = some 4088
    ∧ (((after (.fireLine 3) (due.setLine 3 { l with changeDue := true, mapMask := 0x80000001 })).route
        2).staging.map (·.payload)) = [[1, 1, 0, 0, 0x80]] := by decide +kernel

/-- The live plans of each kind of display (R61, R62, R63, R84). -/
theorem witness_RecompositionBuildsThePlan_live :
    let labels := running.withClu { running.clu with
      floorLabels := tset running.clu.floorLabels 9 [0x20, 0x39, 0x41, 0x42],
      carLabels := tset running.clu.carLabels 7 [0x43, 0x37] }
    let plan (b : Binding) (s : State) : Nat × List Byte :=
      let p := ((after (.recompose 511) (asking { DisplayRecord.initial with
        binding := b, enable := true, template := some 4089 } Zone.initial s)).comp 511).plan
      (p.item, p.fields)
    let car (x : Car) := labels.setCar 7 x
    let seen := { Car.initial with lowerShown := some 9, motion := .moving, direction := .up, full := true }
    let fresh := { seen with state := .fresh, mode := .fireService }
    let lamp (st : LanternState) := lit { Lantern.initial 7 9 with state := st, direction := .down } labels
    let key (x : Session) := labels.setSession 127 { x with display := 511 }
    let hold := { Session.initial with state := .showing, car := 7, deck := .upper, destination := some 1 }
    let position (d : Deck) := plan (.carPosition 7 d)
    position .lower (car fresh) = (4089, [0x20, 0x39, 0x41, 0x42, 1, 1, 1, 0, 1, 0])
    ∧ position .upper (car fresh) = (4089, [0x2D, 0x2D, 0x20, 0x20, 0, 0, 1, 1, 1, 0])
    ∧ position .lower (car { fresh with state := .stale }) = (4089, [0x20, 0x39, 0x41, 0x42, 0, 0, 1, 0, 1, 0])
    ∧ position .lower labels = (4089, [0x2D, 0x2D, 0x20, 0x20, 0, 0, 0, 0, 0, 0])
    ∧ position .lower (car { fresh with state := .lost }) = (4094, List.replicate 10 0)
    ∧ position .lower (car { fresh with mode := .outOfService }) = (4094, List.replicate 10 0)
    ∧ plan (.hallLantern 7 9) (lamp .dark) = (4089, [0x20, 0x20, 0, 0, 0, 0, 0, 0, 0, 0])
    ∧ plan (.hallLantern 7 9) (lamp .expected) = (4089, [0x43, 0x37, 0, 0, 0, 0, 0, 0, 0, 0])
    ∧ plan (.hallLantern 7 9) (lamp .arriving) = (4089, [0x43, 0x37, 2, 1, 0, 0, 0, 0, 0, 0])
    ∧ plan (.lobbyOverview [0, 0, 0, 7, 7]) (car fresh)
        = (4089, [0xFF, 0xFF, 0xFF, 9, 9, 0xFF, 0xFF, 0xFF, 0x40, 1])
    ∧ plan (.lobbyOverview [7]) (car { fresh with state := .stale })
        = (4089, [9, 0xFF, 0xFF, 0xFF, 0xFF, 0xFF, 0xFF, 0xFF, 0, 0])
    ∧ plan (.keypad 127 0) (key { Session.initial with access := true })
        = (4089, [0x20, 0x20, 0x20, 1, 0, 0, 0, 0, 0, 0])
    ∧ plan (.keypad 127 0) (key { Session.initial with state := .entering, digits := [5, 8] })
        = (4089, [0x35, 0x38, 0x20, 0, 0, 0, 0, 0, 0, 0])
    ∧ plan (.keypad 127 0) (key { Session.initial with state := .waiting })
        = (4089, [0x20, 0x20, 0x20, 0, 0, 0, 0, 0, 0, 1])
    ∧ plan (.keypad 127 2) (key hold)
        = (4089, [0x20, 0x20, 0x20, 0, 0x43, 0x37, 1, 2, 0, 0])
    ∧ plan (.keypad 127 0) (key { Session.initial with state := .refused, refusal := .restricted })
        = (4095, [0x20, 0x20, 0x20, 0, 0, 0, 0, 0, 2, 0])
    ∧ (plan (.keypad 127 0) (key { Session.initial with state := .invalid })).1 = 4091
    ∧ (plan (.keypad 127 0) (key { Session.initial with state := .fallback, fallback := .busy })).1 = 4092
    ∧ (plan (.keypad 127 0) (key { Session.initial with state := .fallback, fallback := .detached })).1 = 4090
    ∧ (plan (.keypad 127 0) (key { Session.initial with state := .blocked })).1 = 4088 := by decide +kernel

/-- A purge of item 3 in slot 63, in each condition of R134, and of a quarantined id. -/
theorem witness_QuarantineEndsInRelease_purge :
    let x := { Slot.initial with state := .valid, item := some 3 }
    let e : FillEntry := { slot := 63, item := 3, refill := false, preFill := false, started := true }
    let s (y : Slot) (q : List FillEntry) := (running.setSlot 63 y).setQueue q
    let p (s : State) := takePurgeCell 3 0xFFF 9 s
    let full := List.replicate 8 { e with slot := 1, item := 1, started := false }
    let bad : List BadId := [{ item := 3, remaining := 5 }, { item := 4, remaining := 5 }]
    (running.cst.purgeSerial ≠ 9 ∧ takePurgeCell 3 0xFFF 0 (s x []) = s x [])
    ∧ (p (s x [])).slot 63 = Slot.initial ∧ (p (s x [])).cst.purgeSerial = 9
    ∧ (takePurgeCell 2 0xFFF 9 (s x [])).slot 63 = x
    ∧ (p (s { x with state := .filling } [e])).slot 63 = { x with state := .filling, refetch := true }
    ∧ (p (s { x with state := .filling } [{ e with started := false }])).slot 63 = { x with state := .filling }
    ∧ (p (s { x with refillWanted := true } [])).slot 63 = { x with refillWanted := true }
    ∧ (p (s { x with pinned := true } [])).slot 63 = { x with pinned := true }
    ∧ (p (s { x with pinned := true } [])).cst.queue = [{ e with refill := true, started := false }]
    ∧ (p (s { x with pinned := true } full)).slot 63 = { x with pinned := true, refillWanted := true }
    ∧ (p (running.withCst { running.cst with badIds := bad })).cst.badIds = [{ item := 4, remaining := 5 }]
    ∧ (let shows := (asking { DisplayRecord.initial with enable := true } Zone.initial (s x [])).setComp 511
        { Composition.initial with plan := { Plan.initial with item := 3 } }
       ((p shows).comp 511).asked = some Ask.plain) := by
  refine ⟨⟨by decide +kernel, rfl⟩, ?_⟩; decide +kernel

/-- New lock windows: pins that no window covers fall, and of sixteen covered slots of set 3 the last is refused
(R131, R132). -/
theorem witness_QuarantineEndsInRelease_windows :
    let all := running.withCst { running.cst with
      slots := tbuild 64 fun i => { Slot.initial with state := .valid, item := some (4 * i + 3), pinned := i < 16 } }
    let one : Vector LockWindow 4 := tset (Vector.replicate 4 LockWindow.initial) 3
      { valid := true, base := 0, mask := 0 }
    let none_ := changeWindows (Vector.replicate 4 { valid := false, base := 1, mask := 0 }) all
    let t := changeWindows one all
    let full := (all.setSlot 0 { all.slot 0 with pinned := false }).withCst
      { (all.setSlot 0 { all.slot 0 with pinned := false }).cst with windows := one }
    one ≠ all.cst.windows ∧ (none_.slot 0).pinned = false
    ∧ (t.slot 62).pinned = true ∧ (t.slot 63).pinned = false ∧ t.pinnedCount 3 = 15
    ∧ coveringWindow one 4087 = some 3 ∧ full.pinnedCount 0 = 15
    ∧ ((decidePin 0 3 full).slot 0).pinned = false
    ∧ ((decidePin 63 255 full).slot 63).pinned = true := by decide +kernel

/-- New keys, a repeat and a sequence of 0, and the return of an OFFLINE keypad (R67, R81, R162). -/
theorem witness_GoodRepliesMoveThePanel_keys :
    let v : Visit := { address := 31, command := .poll, origin := .slot, stamp := 4, stayed := true }
    let s (x : Session) (p : Panel) := (keypad x (running.setString 15 (window v [] 7))).setPanel 511 p
    let old := { Panel.initial with health := .present, keyAck := 3 }
    let blocked := { Session.initial with state := .blocked, offline := true }
    let got (keys key : Byte) (s : State) := after (.panelReply 15 (replyChars (replyBytes 1 4 keys key 0))) s
    (s Session.initial old).holder 15 31 = some 511
    ∧ ((got 0x14 7 (s Session.initial old)).session 127).digits = [7]
    ∧ tget (got 0x14 7 (s Session.initial old)).mir.dirty 799 false = true
    ∧ ((got 0x13 7 (s Session.initial old)).session 127).digits = []
    ∧ ((got 0 0 (s Session.initial old)).session 127).digits = []
    ∧ ((got 0x14 7 (s blocked { old with health := .offline })).session 127).digits = [7]
    ∧ ((got 0x13 7 (s blocked { old with health := .offline })).session 127).state = .idle
    ∧ ((got 0x13 7 (s { blocked with evac := true } { old with health := .offline })).session 127).state = .blocked
    ∧ ((got 0x14 7 ((s Session.initial old).withDev { running.dev with state := .stopping })).session 127).digits
        = []
    ∧ (deliverKeys 127 [.digit 5, .clear] (s Session.initial old)).drq = (s Session.initial old).drq
    ∧ (running.session 127).bound = false := by decide +kernel

/-- New timer settings of pair 7: a preset, run changes, a restart in each direction, and an upper channel of a
pair (R170 to R173). -/
theorem witness_CadenceTicksCountOnce_settings :
    let set (reload serial : Nat) (run cascade : Bool) : ChannelSettings :=
      { ChannelSettings.initial with reload := reload, serial := serial, run := run, cascade := cascade }
    let old := { Channel.initial with running := true, pending := .unset, count := 9, phase := true, owed := 2 }
    let ch (x : ChannelSettings) : Channel := { old with settings := x }
    let s (x : ChannelSettings) := ((onString (powered .running) running).setChannel 14 (ch x)).setChannel 15
      (ch (set 1 0 true false))
    let t (a b x : ChannelSettings) := changeTimers
      (tset (tset (Vector.replicate 16 ChannelSettings.initial) 14 a) 15 b) (s x)
    let plain := set 4 0 true false
    let upper := set 1 0 true false
    let armed := { Channel.initial with settings := set 4 0 true true, pending := .start, count := 260 }
    (t plain upper plain).channel 14 = ch plain ∧ ((t plain upper plain).string 15).syncPending = false
    ∧ (t (set 4 1 true false) upper plain).channel 14 = { ch (set 4 1 true false) with count := 4, phase := false }
    ∧ ((t (set 4 1 true false) upper plain).string 15).syncPending = true
    ∧ ((t (set 4 0 false false) upper plain).channel 14).pending = .stop
    ∧ (t (set 4 0 true true) upper plain).channel 14 = armed
    ∧ ((t (set 4 0 true true) upper plain).channel 15).pending = .unset
    ∧ ((t plain upper (set 4 0 true true)).channel 15).pending = .start
    ∧ ((t plain upper (set 4 0 true true)).channel 15).count = 1
    ∧ (t (set 5 0 true true) (set 2 7 false false) (set 4 0 true true)).channel 15
        = { ch (set 2 7 false false) with phase := true }
    ∧ ((t (set 5 1 true true) (set 2 7 false false) (set 4 0 true true)).channel 14).count = 517 := by
  decide +kernel

/-- ACCESS without the record's assist flag is discarded in a hold (R67). -/
theorem witness_HoldEndsByTimeOrKey_access :
    let s := keypad { Session.initial with state := .showing, timer := some 1 } running
    let bare := s.setDisplay 511 { s.display 511 with assist := false }
    (bare.recordOf (bare.session 127)).assist = false
    ∧ ((applyKey 127 .access bare).session 127).state = .showing := by decide +kernel

/-! ## Notices, entry to STOPPING, and changes of presence -/

/-- A soft reset releases a fire line and keeps its pin (R25, R111); both resets complete. -/
theorem witness_ResetsClearThePart_lines :
    let s := running.setLine 3 { FireLine.initial with
      pin := true, asserted := true, stable := 7, changeDue := true, mapMask := 5, mapItem := 9 }
    (exec (.softReset true) s = .next (after (.softReset true) s))
    ∧ (exec .powerOnReset s = .next (after .powerOnReset s))
    ∧ (after (.softReset true) s).line 3 = { FireLine.initial with pin := true }
    ∧ (after .powerOnReset s).line 3 = { FireLine.initial with pin := true } := by
  refine ⟨rfl, rfl, ?_⟩; decide +kernel

/-- A lock window does not outlive step 1 of LOADING (R137). -/
theorem test_start_clears_the_windows :
    let w : LockWindow := { valid := true, base := 3, mask := 0xFFF }
    let s := State.reset.withCst { State.reset.cst with windows := tset State.reset.cst.windows 3 w }
    tget (after (.run true) s).cst.windows 3 w = LockWindow.initial := by decide +kernel

/-- Entry to STOPPING with a cell take, a live take and nothing in flight, and with a string in each state (R24,
R34, R139, R143). -/
theorem witness_RunMovesDeviceState_stopping :
    let place : ScanPlace := .cell .cells 15 31 5 true
    let c (p : AreaPhase) : AreaCondition := { phase := p, rescan := true }
    let s := (running.withScan { running.scan with
      place := some place, areas := tset (tset running.scan.areas 0 (c .inFlight)) 4 (c .requested),
      timer := some 4, liveRetry := true }).withPort { running.port with boardLost := true }
    let stop (a : Access) := after (.run false) (flying a s)
    let dropped (t : State) := t.port.inFlight.map (·.discarded)
    let moved (st : StringState) (line : Line) :=
      ((after (.run false) (running.setString 15 { powered st with line := line })).string 15).state
    (stop (.cellTake .cells 511)).scan.place = some place
    ∧ (stop (.cellTake .cells 511)).scan.area .cells = { phase := .inFlight, rescan := false }
    ∧ (stop (.cellTake .cells 511)).scan.area .supply = { phase := .idle, rescan := false }
    ∧ (stop (.cellTake .cells 511)).scan.timer = none ∧ (stop (.cellTake .cells 511)).scan.liveRetry = false
    ∧ dropped (stop (.cellTake .cells 511)) = some false ∧ dropped (stop (.mirrorWrite 5)) = some false
    ∧ (stop .liveTake).scan.place = none ∧ dropped (stop .liveTake) = some true
    ∧ (stop .liveTake).scan.area .cells = { phase := .idle, rescan := false }
    ∧ (stop .liveTake).dev.stopLost = true
    ∧ ((after (.run false) (running.setLink 7 { receiver := .collecting 1 [], errors := 2 })).link 7)
        = { receiver := .hunt, errors := 2 }
    ∧ moved .powering .free = .parking ∧ moved .waking .free = .parking ∧ moved .faultLocked .free = .off
    ∧ moved .enumerating (.sending .enumerate [] none) = .enumerating
    ∧ moved .running .free = .parking ∧ moved .running (.sending .sync [] none) = .draining
    ∧ moved .fault .free = .fault
    ∧ ((after (.run false) (running.setString 15 { PanelString.initial with state := .faultLocked })).string 15).state
        = .faultLocked := by decide +kernel

/-- A fall of the effective run of S15 in each state (R139, R143, R145, R147). -/
theorem witness_StringsComeUpAndPark_lowered :
    let l (a : Nat) (st : SlotStatus) : SweepSlot := { address := a, status := st }
    let sweep (p : Bool) (ls : List SweepSlot) : Option Sweep := some { slots := ls, probe := p, halt := false }
    let s (x : PanelString) := (stopping.setString 15 x).setPanel 511 { Panel.initial with health := .offline }
    let t (x : PanelString) := (runChanged 15 true (s x)).string 15
    let parked (x : PanelString) := { x with state := .parking, line := .sending .sleep (telegram 0 .sleep 0 []) none }
    let busy : Line := .sending .poll [] none
    let x := { powered .running with urgent := [31], syncPending := true, nextOwed := true, completed := 6 }
    let drained := { powered .draining with completed := 6 }
    (s x).effectiveRun 15 = false
    ∧ t { powered .powering with settle := some 3 } = parked (powered .powering)
    ∧ t { powered .waking with wake := some 3 } = parked (powered .waking)
    ∧ t { powered .waking with line := busy } = { powered .waking with line := busy, parkOwed := true }
    ∧ t x = parked drained
    ∧ t { x with sweep := sweep true [l 30 .good, l 31 .ready] }
        = { drained with sweep := sweep true [l 30 .good, l 31 .ready] }
    ∧ t { x with sweep := sweep false [l 30 .skipped, l 31 .ready] } = parked { drained with completed := 7 }
    ∧ t { x with line := busy, sweep := sweep false [l 31 .active] }
        = { drained with line := busy, sweep := sweep false [l 31 .active] }
    ∧ t { powered .faultLocked with faults := 4 } = powered .off
    ∧ tget (runChanged 15 true (s x)).mir.dirty 1391 false = true
    ∧ t (powered .fault) = powered .fault := by decide +kernel

/-- Presence from ATTACHED to DETACHED, in RUNNING and in STOPPING: lanterns and host parts (R60, R109, R118). -/
theorem witness_DetachedSessionsFallBack_leave :
    let z (p : Priority) (src : List Nat) : Zone :=
      { hostPriority := p, hostItem := some 7, sources := src,
        priority := if src.isEmpty then p else .evacuate, item := if src.isEmpty then some 7 else some 4093 }
    let s (d : DeviceState) := ((((attached (inState d .outside)).setZone 31 (z .service [])).setZone 30
      (z .notice [3])).setZone 29 (z .evacuate [])).setLantern 511
      (some { Lantern.initial 7 9 with state := .expected, expected := 15 })
    let t (d : DeviceState) := changePresence .detachedHeartbeat (s d)
    (s .running).formsZones = true ∧ (s .stopping).formsZones = false
    ∧ (t .running).lantern 511 = some (Lantern.initial 7 9)
    ∧ (t .running).zone 31 = Zone.initial
    ∧ (t .running).zone 30 = { z .notice [3] with hostPriority := .clear, hostItem := none }
    ∧ (t .running).zone 29 = z .evacuate []
    ∧ (t .stopping).zone 31 = { z .service [] with hostPriority := .clear, hostItem := none }
    ∧ (t .stopping).lantern 511 = some (Lantern.initial 7 9)
    ∧ ((changePresence .detachedBoard ((s .running).withDpm { Dpm.initial with presence := .waitingFirst })).lantern
        511).map (·.expected) = some 15
    ∧ (changePresence .detachedBoard ((s .running).withDpm { Dpm.initial with presence := .waitingFirst })).zone 31
        = Zone.initial
    ∧ (changePresence .detachedBoard ((s .running).withDpm { Dpm.initial with presence := .detachedHeartbeat })).zone
        31 = z .service [] := by decide +kernel

/-- Presence back to ATTACHED: the displays of a zone of SERVICE are recomposed and marked while the list has
room (R118). -/
theorem witness_DetachedSessionsFallBack_return :
    let r := { DisplayRecord.initial with status := .bound, binding := .free, zone := 31, string := 15, address := 31 }
    let s (p : Priority) (urgent : List Nat) (d : DeviceState) :=
      (((onString { powered .running with urgent := urgent } (inState d .outside)).setDisplay 511 r).setZone 31
        { Zone.initial with hostPriority := p, hostItem := some 7, priority := p, item := some 7 }).setPanel 511
        { Panel.initial with health := .present }
    let t (p : Priority) (urgent : List Nat) (d : DeviceState) := changePresence .attached (s p urgent d)
    ((t .service [] .running).comp 511).asked = some Ask.plain
    ∧ ((t .service [] .running).string 15).urgent = [31]
    ∧ ((t .notice [1, 2, 3, 4, 5, 6, 7, 8] .running).string 15).urgent = [1, 2, 3, 4, 5, 6, 7, 8]
    ∧ ((t .evacuate [] .running).comp 511).asked = none
    ∧ ((t .service [] .stopping).comp 511).asked = none
    ∧ ((t .service [] .stopping).string 15).urgent = [] := by decide +kernel

/-- A KEYPAD display posted anew as FREE while its session waits: the record stands replaced, the cancel carries
the old zone and floor, and the recomposition is the take's own (R5, R9, R66; log 14). -/
theorem test_unbinding_by_another_kind :
    let x := { Session.initial with state := .waiting, ticket := 6, route := some 2, destination := some 3 }
    let s := keypad x (waitingOn 2 (routed { mode := .off, target := 0, mask := 0, cursor := 0 }))
    let old := s.setDisplay 511 { s.display 511 with zone := 30 }
    let t := (takeDisplay 511 (displayBody 5 15 31 0 0 0) old).1
    (t.display 511).binding = .free ∧ (t.comp 511).asked = some Ask.plain
    ∧ t.session 127 = { Session.initial with
        display := 511, retiredTicket := 6, retiredRoute := some 2, retiredKind := .withdrawn, withdrawal := .unbound }
    ∧ ((t.route 2).staging.map fun e => (e.kind, e.cls, e.ticket, e.payload.take 2)).getLast?
        = some (.destCancel, 30, 6, [2, BitVec.ofNat 8 (s.originOf (s.session 127))]) := by decide +kernel

/-- A request for a display that awaits one adds nothing, a session's request beside a take's included (R9;
log 12). -/
theorem witness_RecompositionBuildsThePlan_asked :
    let r := { DisplayRecord.initial with status := .bound }
    let s := running.setDisplay 511 r
    let one := askRecompose .plain 511 s
    (s.comp 511).asked = none ∧ (s.display 511).status = .bound ∧ (one.comp 511).asked = some Ask.plain
    ∧ ((askRecompose .session 511 one).comp 511).asked = some Ask.plain
    ∧ ((askRecompose .plain 510 s).comp 510).asked = none := by decide +kernel

/-- The urgent mark of a recomposition, taken and not (R10, R150). -/
theorem witness_RecompositionBuildsThePlan_marks :
    let r := { DisplayRecord.initial with binding := .free, enable := true, template := some 4089 }
    let s (h : Health) (why : Ask) (x : PanelString) :=
      let a := asking r Zone.initial ((onString x running).setPanel 511 { Panel.initial with health := h })
      a.setComp 511 { a.comp 511 with asked := some why, plan := { Plan.initial with pending := true } }
    let urgent (h : Health) (why : Ask) (x : PanelString) := ((after (.recompose 511) (s h why x)).string 15).urgent
    urgent .present .session (powered .running) = [31] ∧ urgent .present .completion (powered .running) = [31]
    ∧ urgent .present .plain (powered .running) = []
    ∧ urgent .offline .session (powered .running) = [] ∧ urgent .present .session (powered .draining) = []
    ∧ urgent .present .session { powered .running with urgent := [31] } = [31]
    ∧ (urgent .present .session { powered .running with urgent := List.replicate 8 30 }).length = 8
    ∧ (let t := after (.recompose 511) (s .present .completion (powered .running))
       (t.comp 511).plan ≠ ((s .present .completion (powered .running)).comp 511).plan
       ∧ (t.comp 511).plan.pending = false) := by decide +kernel

/-- Two owed refills and room for one at the end of a fill, in RUNNING and in STOPPING (R135, R137). -/
theorem witness_FillsCompleteOrFault_owed :
    let e : FillEntry := { slot := 63, item := 3, refill := false, preFill := false, started := true }
    let x := { Slot.initial with state := .filling, item := some 3 }
    let v (item : Nat) := { Slot.initial with
      state := .valid, item := some item, pinned := true, refillWanted := true, length := 1, bytes := [1] }
    let full := e :: List.replicate 7 { e with slot := 0, item := 4, started := false }
    let s (d : DeviceState) :=
      flying (.fill 63 3) (((((inState d .outside).setSlot 63 x).setSlot 16 (v 1)).setSlot 2 (v 8)).setQueue full)
    let t (a : FillRead) (d : DeviceState) := after (.fill a) (s d)
    let got : FillRead := .read 0 1 [9]
    startedEntry (s .running).cst.queue = some e
    ∧ (t got .running).cst.queue = full.drop 1 ++ [{ e with slot := 2, item := 8, refill := true, started := false }]
    ∧ ((t got .running).slot 2).refillWanted = false ∧ ((t got .running).slot 16).refillWanted = true
    ∧ (t .busError .running).cst.queue.length = 8
    ∧ (t got .stopping).cst.queue = full.drop 1 ∧ ((t got .stopping).slot 2).refillWanted = true := by
  decide +kernel

/-- The payload of a SHOW of a fetched item, with and without a label addition (R156, R63). -/
theorem witness_VisitsBeginByTheTable_payload :
    let p := { Plan.initial with item := 517, timer := 3, brightness := 9, banner := some 0x102,
                                 fields := [5, 0xFF, 7, 0, 0, 0, 0, 0, 0, 1] }
    let v := { Slot.initial with state := .valid, item := some 517, length := 2, bytes := [0xAA, 0xBB] }
    let base := (running.setSlot 16 v).withClu { running.clu with
      floorLabels := tset running.clu.floorLabels 5 [1, 2, 3, 4], carLabels := tset running.clu.carLabels 7 [0x4B, 0x33] }
    let s (b : Binding) :=
      let a := onString { powered .running with urgent := [31] } (shown { Panel.initial with health := .present } base)
      (a.setComp 511 { a.comp 511 with plan := p }).setDisplay 511 { a.display 511 with binding := b }
    let body : List Byte :=
      [5, 2, 3, 9, 5, 0xFF, 7, 0, 0, 0, 0, 0, 0, 1, 2, 1, 2, 0xAA, 0xBB]
    (s .free).visitCommand 15 31 511 = .show ∧ (s .free).showPayload 511 = body
    ∧ ((s (.lobbyOverview [7])).showPayload 511).take 29
        = body ++ [0x4B, 0x33, 0x20, 0x20, 0x20, 0x20, 0x20, 0x20, 0x20, 0x20]
    ∧ (((s (.lobbyOverview [7])).showPayload 511).drop 35).take 8 = [1, 2, 3, 4, 0x2D, 0x2D, 0x20, 0x20]
    ∧ ((s (.lobbyOverview [7])).showPayload 511).length = body.length + 48
    ∧ ((after (.showPlan 15) (s .free)).string 15).line = .sending .show (telegram 31 .show 0 body)
        (some { address := 31, command := .show, origin := .urgent, stamp := 5, stayed := true }) := by
  decide +kernel

/-- A tenth character that completes a bad reply: check, echo, kind, type, count and key code (R158). -/
theorem witness_FailuresMoveThePanel_reply :
    let v : Visit := { address := 31, command := .poll, origin := .slot, stamp := 4, stayed := true }
    let s (b : List Byte) := onString (window v b 7) (shown { Panel.initial with health := .present } running)
    let last (b : List Byte) := ((after (.panelReply 15 (replyChars (b.drop 9))) (s (b.take 9))).panel 511)
    let bad := { Panel.initial with health := .degraded, misses := 1 }
    let sum (b : List Byte) := b ++ [crc8 b]
    (replyBytes 1 5 0 0 8).length = 10
    ∧ (last (replyBytes 1 5 0 0 8)).light = some 8
    ∧ last ((replyBytes 1 5 0 0 8).take 9 ++ [crc8 ((replyBytes 1 5 0 0 8).take 9) + 1]) = bad
    ∧ last (sum [30, 1, 5, 0, 0, 0, 0, 0, 8]) = bad ∧ last (replyBytes 2 5 0 0 8) = bad
    ∧ last (replyBytes 1 0 0 0 8) = bad ∧ last (replyBytes 1 6 0 0 8) = bad
    ∧ last (replyBytes 1 5 0x51 0 8) = bad ∧ last (replyBytes 1 5 0x10 0 8) = bad
    ∧ last (replyBytes 1 5 0x01 0 8) = bad ∧ last (replyBytes 1 5 0x11 13 8) = bad
    ∧ (last (replyBytes 1 5 0x11 12 8)).keyAck = 1 := by decide +kernel

/-! ## Entries to IDLE, grants, zone notices, bindings kept, and the ends of sweeps -/

/-- A state with much to be put at rest: a scan, a receiver, a fill of each kind, a check and a sequence in
flight. -/
def busy (s : State) : State :=
  let e : FillEntry := { slot := 3, item := 8, refill := false, preFill := true, started := true }
  let x := { Slot.initial with state := .filling, item := some 8, refetch := true }
  let t := flying (.fill 3 8) (((s.setSlot 3 x).setSlot 2 { x with state := .valid }).setQueue
    [e, { e with slot := 2, refill := true, started := false }])
  ((((scanning .live t).setLink 7 { receiver := .collecting 1 [2], errors := 5 }).withDpm
    { t.dpm with timer := some 9, checkPending := true }).withMir
    { t.mir with dirty := tset t.mir.dirty 9 true }).withScan
    { t.scan with areas := Vector.replicate 5 { phase := .requested, rescan := true }, timer := some 4 }

/-- What a state at rest shows of `busy` (R22, R43, R137, R176). -/
def rested (t : State) : Prop :=
  t.dev.state = .idle ∧ (t.port.inFlight.all fun f => f.discarded) = true
    ∧ t.scan.place = none ∧ t.scan.timer = none ∧ t.scan.area .live = { phase := .idle, rescan := false }
    ∧ tget t.mir.dirty 9 false = false ∧ t.link 7 = { receiver := .hunt, errors := 5 }
    ∧ t.cst.queue = [] ∧ t.slot 3 = Slot.initial ∧ (t.slot 2).state = .valid ∧ (t.slot 2).refetch = false
    ∧ t.dpm.timer = none ∧ t.dpm.checkPending = false

theorem witness_RunMovesDeviceState_abandoned :
    let s := busy (inState .loading .preFill)
    s.win.runBit = true ∧ rested (after (.run false) s) ∧ (after (.run false) s).cause = 0x4000
    ∧ (after (.run false) s).port.inFlight.isSome = true := by
  unfold rested; decide +kernel

theorem witness_HeaderReadChecksTagAndRanges_rest :
    let s := flying .headerRead (busy (inState .loading .header))
    s.flies .headerRead ∧ rested (after (.headerRead none) s)
    ∧ rested (after (.headerRead (some (padTo 256 []))) s)
    ∧ (after (.headerRead (some (padTo 256 []))) s).dev.startFault = .tag
    ∧ (after (.headerRead none) s).cause = 0x2000 := by
  refine ⟨flying_flies _ _, ?_⟩; unfold rested; decide +kernel

theorem witness_StoppingEndsAtRest_rest :
    let s := busy stopping
    let lost := s.withDev { s.dev with stopLost := true }
    let again := lost.withWin { lost.win with runBit := true }
    let u := (after .stoppingEnd lost).withWin { again.win with runBit := false }
    rested (after .stoppingEnd lost) ∧ (after .stoppingEnd again).dev = (after (.run true) u).dev
    ∧ (after .stoppingEnd again).port = (after (.run true) u).port
    ∧ (after .stoppingEnd again).cst.queue = [] := by
  unfold rested; decide +kernel

/-- What each claimant begins at its grant (R32, R40, R126, R176). -/
theorem witness_PortGoesRoundRobin_claims :
    let begun (c : Claimant) (s : State) := (startClaim c s).map fun p => (p.2.access, p.2.ops)
    let e : FillEntry := { slot := 3, item := 8, refill := false, preFill := false, started := false }
    let fills := (running.withHdr { running.hdr with contentDirectory := 0x1000 }).setQueue [e, { e with slot := 7 }]
    begun .scanner (inState .loading .header) = some (.headerRead, [.read 0 256])
    ∧ begun .scanner (scanning (.cell .answers 16 2 0 true) running) = some (.cellTake .answers 514,
        [.read 0x5020 4, .read 0x5024 12, .read 0x5020 4])
    ∧ begun .scanner (scanning (.cell .overrides 20 31 0 true) running) = some (.cellTake .overrides 671,
        [.read 0x59F0 4, .read 0x59F4 12, .read 0x59F0 4])
    ∧ begun .scanner (scanning (.counter .cells 15) running) = some (.counterRead .cells 15, [.read 0x083C 4])
    ∧ begun .scanner (scanning .live stopping) = none ∧ begun .scanner (inState .loading .preFill) = none
    ∧ begun .fillEngine fills = some (.fill 3 8, [.read 0x1040 8])
    ∧ (after .portGrant fills).cst.queue = [{ e with started := true }, { e with slot := 7 }]
    ∧ begun .heartbeatReader (running.withDpm { Dpm.initial with checkPending := true })
        = some (.heartbeatRead, [.read 32 4])
    ∧ begun .heartbeatReader running = none ∧ running.dev.state ≠ .idle ∧ State.reset.dev.state = .idle
    ∧ running.engineRoute = none ∧ begun .pageEngine running = none := by decide +kernel

/-- The bytes of an OPEN header, of a record, of closes with and without a next page, and a draw (R97, R100,
R101, R103). -/
theorem witness_PageEngineChoosesByRank_bytes :
    let x := { Route.initial with
      openPage := some 0x12, openWritten := true, serial := 0x010203, chain := 7, records := 3, dropped := 0x105,
      staging := [{ someEvent with source := 0x0201, payload := [9], ticket := 6 }], successor := some 0x34 }
    let s (x : Route) := running.setRoute 7 x
    let begun (s : State) := (after .portGrant s).port.inFlight.map fun f => (f.access, f.ops)
    let close (next : List Byte) (code : Byte) : List BusOp :=
      [.write 0x1208 next, .write 0x1202 [3], .write 0x1203 [code], .write 0x1212 [5, 1],
       .write 0x1218 [0xA0, 0x86, 1, 0], .write 0x1200 [2]]
    (s x).engineRoute = some 7 ∧ (s x).rank 7 = some 5 ∧ (s x).port.inFlight = none
    ∧ begun (s { x with openWritten := false }) = some (.openWrite 7, [.write 0x1200
        [1, 7, 0, 0, 3, 2, 1, 0, 0, 0, 0, 0, 0, 0, 0, 0, 7, 0, 0, 0, 0xA0, 0x86, 1, 0, 0, 0, 0, 0, 0, 0, 0, 0]])
    ∧ begun (s x) = some (.recordWrite 7, [.write 0x1250
        [0x70, 39, 1, 2, 6, 0, 9, 0, 0, 0, 0, 0, 9, 0, 0, 0], .write 0x1202 [4]])
    ∧ begun (s { x with closing := some .age })
        = some (.closeWrite 7 0x105 true, close [0, 0x34, 0, 0, 0, 0, 0, 0] 2)
    ∧ begun (s { x with closing := some .stop })
        = some (.closeWrite 7 0x105 false, close [0, 0, 0, 0, 0, 0, 0, 0] 4)
    ∧ begun ((s { Route.initial with staging := [someEvent] }).withEru
        { (s { Route.initial with staging := [someEvent] }).eru with drawn := 65, lastRead := 66 })
        = some (.pageDraw 7 true, [.read 0x910 8])
    ∧ (after .portGrant (s x)).eru.lastServed = 7 := by decide +kernel

/-- Two labels of one text: the lower floor is keyed; a label with a leading space is not (R69). -/
theorem witness_EnterRequestsADestination_labels :
    let labels := tset (tset (tset running.clu.floorLabels 253 [0x31, 0x32, 0x20, 0x20])
      7 [0x31, 0x32, 0x20, 0x20]) 3 [0x20, 0x31, 0x32, 0x20]
    let s := running.withClu { running.clu with floorLabels := labels }
    let top := running.withClu { running.clu with
      floorLabels := tset running.clu.floorLabels 254 [0x31, 0x32, 0x20, 0x20] }
    let on := (attached (routed RouteEntry.initial)).setEntry 31 { mode := .single, target := 2, mask := 0, cursor := 0 }
    let t := applyKey 127 .enter (keypad { Session.initial with state := .entering, digits := [1, 2], access := true }
      (on.withClu { on.clu with floorLabels := labels }))
    s.floorOf [1, 2] = some 7 ∧ s.floorOf [0, 1, 2] = none ∧ top.floorOf [1, 2] = none
    ∧ (t.route 2).staging = [{ kind := .destRequest, cls := 31, source := 127, ticket := 1, payload := [0, 7, 1],
                               time := 100000 }] := by decide +kernel

/-- EVACUATE raised in a zone and lowered again: the session, the display and the urgent list (R81, R116, R117). -/
theorem witness_FireLinesFormZones_notices :
    let base := (waitingOn 2 (keypad Session.initial (routed RouteEntry.initial)))
    let s := (base.withStc { base.stc with
      strings := tset base.stc.strings 15 { powered .running with schedule := [31] } }).setSession 127
      { base.session 127 with display := 511 }
    let t := (takeOverride 31 [3, 0, 0xFA, 0x0F] s).1
    let u := (takeOverride 31 [0, 0, 0, 0] t).1
    (s.zone 31).priority = .clear ∧ s.formsZones = true ∧ s.dev.state = .running
    ∧ (s.session 127).bound = true ∧ (s.display (s.session 127).display).zone = 31
    ∧ (t.session 127).evac = true ∧ (t.session 127).state = .blocked
    ∧ ((t.route 2).staging.map fun e => (e.kind, e.payload)) = [(.destCancel, [3, 0, 9])]
    ∧ (t.comp 511).asked ≠ none ∧ (t.string 15).urgent = [31]
    ∧ (u.session 127).evac = false ∧ (u.session 127).state = .idle
    ∧ ((takeOverride 31 [3, 0, 0xFA, 0x0F] (t.setComp 511 Composition.initial)).1.comp 511).asked = none
    ∧ ((takeOverride 31 [3, 0, 0xFB, 0x0F] (t.setComp 511 Composition.initial)).1.comp 511).asked = some Ask.plain
    ∧ (let lit := (s.setLine 3 { FireLine.initial with
          pin := true, changeDue := true, mapMask := 0x80000000, mapItem := 4090, resolved := 4090 })
       ((after (.fireLine 3) lit).session 127).state = .blocked
       ∧ ((after (.fireLine 3) lit).string 15).urgent = [31]) := by decide +kernel

/-- A session kept over a change of zone and of panel, and one re-bound at another floor (R5, R66). -/
theorem witness_DisplayTakesBindOrRefuse_kept :
    let body (address zone floor : Byte) : List Byte := [4, 15, address, zone, 0xFF, 0xFF, 15, 0, 3, 127, floor, 0]
    let s := (keypad { (waitingOn 2 running).session 127 with bound := true } (routed RouteEntry.initial)).setZone 30
      { Zone.initial with priority := .evacuate, item := some 4093 }
    let off := keypad { Session.initial with state := .blocked, offline := true } running
    let take (b : List Byte) (s : State) := (takeDisplay 511 b s).1
    (s.display 511).slot = some (127, 0) ∧ (take (body 31 31 0) s).session 127 = s.session 127
    ∧ ((take (body 31 30 0) s).session 127).state = .blocked
    ∧ ((take (body 31 30 0) s).session 127).retiredKind = .withdrawn
    ∧ (((take (body 31 30 0) s).route 2).staging.map fun e => (e.kind, e.payload)) = [(.destCancel, [3, 0, 9])]
    ∧ ((take (body 31 31 0) (take (body 31 30 0) s)).session 127).state = .idle
    ∧ ((take (body 30 31 0) off).session 127).state = .idle
    ∧ ((take (body 30 31 0) off).session 127).offline = false
    ∧ ((take (body 31 31 0) off).session 127).state = .blocked
    ∧ (take (body 31 31 5) s).session 127 = { Session.initial with
        bound := true, display := 511, retiredTicket := 6, retiredRoute := some 2, retiredKind := .withdrawn,
        withdrawal := .unbound }
    ∧ (((take (body 31 31 5) s).route 2).staging.map fun e => (e.cls, e.payload)) = [(31, [2, 0, 9])]
    ∧ (take [4, 15, 31, 31, 0xFF, 0xFF, 15, 0, 3, 126, 0, 0] s).session 127 = { Session.initial with
        display := 511, retiredTicket := 6, retiredRoute := some 2, retiredKind := .withdrawn,
        withdrawal := .unbound } := by decide +kernel

/-- What a display waits on after each answer of the Content Store (R13, R14). -/
theorem witness_RecompositionBuildsThePlan_waits :
    let r := { DisplayRecord.initial with binding := .free, enable := true, template := some 5 }
    let wait (z : Zone) (s : State) := ((after (.recompose 511) (asking r z s)).comp 511).wait
    let evac := { Zone.initial with priority := .evacuate, item := some 5 }
    let bad := running.withCst { running.cst with badIds := [{ item := 5, remaining := 9 }] }
    let held := running.setSlot 16 { Slot.initial with state := .valid, item := some 5 }
    wait Zone.initial running = .fill 5 ∧ wait Zone.initial stopping = .anyFill
    ∧ wait Zone.initial bad = .release 5 ∧ wait Zone.initial held = .nothing
    ∧ wait evac running = .fill 5 ∧ wait evac stopping = .anyFill ∧ wait evac bad = .release 5
    ∧ wait evac held = .nothing ∧ wait { evac with item := some 4090 } running = .nothing := by decide +kernel

/-- Step 8 with a built-in item, one not covered, and one covered that two lines share; its pre-fill faults, and a
zone of an asserted line takes EVACUATE's item (R113). -/
theorem witness_SeedsAndSupplyCountAreHeld_lines :
    let line (i : Nat) (s : State) (k : Nat) := s.setLine k { FireLine.initial with mapItem := i, resolved := i }
    let base := line 7 (line 7 (line 9 (line 4091 (inState .loading .supplyCount) 0) 1) 2) 3
    let up := (base.setLine 3 { base.line 3 with asserted := true, mapMask := 0x80000000 }).setZone 31
      { Zone.initial with sources := [3], priority := .evacuate, item := some 7 }
    let s := flying .supplyRead (up.withCst { up.cst with
      windows := tset up.cst.windows 3 { valid := true, base := 7, mask := 0xFFF } })
    let t := after (.supplyCountRead (some 4)) s
    let u := after (.fill .busError) (after .portGrant t)
    s.flies .supplyRead ∧ t.dev.load = .preFill
    ∧ ((List.range 4).map fun k => ((t.line k).resolved, (t.line k).substituted))
        = [(4091, false), (4093, true), (7, false), (7, false)]
    ∧ t.cst.queue = [{ slot := 48, item := 7, refill := false, preFill := true, started := false }]
    ∧ tget t.ovr.flags 1 false = false
    ∧ u.dev.load = .firstScan ∧ u.scan.place = some (.counter .cells 0)
    ∧ ((List.range 4).map fun k => ((u.line k).resolved, (u.line k).substituted))
        = [(4091, false), (4093, true), (4093, true), (4093, true)]
    ∧ ((List.range 4).map fun k => tget u.ovr.flags k false) = [false, true, true, true]
    ∧ (u.zone 31).item = some 4093 ∧ tget u.mir.dirty 1400 false = true
    ∧ ((after (.fill (.read 0 1 [5])) (after .portGrant t)).line 3).resolved = 7
    ∧ ((after (.fill (.read 0 1 [5])) (after .portGrant t)).slot 48).pinned = true := by
  refine ⟨flying_flies _ _, ?_⟩; decide +kernel

/-- The ends of visits: a pass that ends in RUNNING, a sweep counted, an owed sweep, HALT, a drained string, a panel
that left the schedule (R141, R143, R147, R149, R152). -/
theorem witness_FailuresMoveThePanel_sweeps :
    let v : Visit := { address := 31, command := .poll, origin := .slot, stamp := 4, stayed := true }
    let slot (a : Nat) (x : SlotStatus) : SweepSlot := { address := a, status := x }
    let w (l : List SweepSlot) (halt : Bool) : Option Sweep := some { slots := l, probe := false, halt := halt }
    let t (x : PanelString) := (after (.replyTimeout 15)
      ((shown { Panel.initial with health := .present } running).setString 15
        { x with schedule := [30, 31], urgent := [] })).string 15
    let run := window v [] 0
    let last := { run with sweep := w [slot 30 .good, slot 31 .active] false }
    (t last).sweep = none ∧ (t last).completed = 1 ∧ (t last).line = .free ∧ (t last).state = .running
    ∧ (t { last with nextOwed := true }).sweep = w [slot 30 .ready, slot 31 .ready] false
    ∧ (t { last with nextOwed := true }).sweepNumber = 1
    ∧ (t { last with state := .draining }).state = .parking
    ∧ (t { run with sweep := w [slot 31 .active, slot 30 .ready] false }).sweep
        = w [slot 31 .noReply, slot 30 .ready] false
    ∧ (t { run with sweep := w [slot 31 .active, slot 30 .ready] true }).completed = 1
    ∧ (t { run with line := .window { v with stayed := false } [] 7 0,
                    sweep := w [slot 30 .ready, slot 31 .active] false }).sweep = w [slot 30 .ready] false
    ∧ (t { run with state := .enumerating, visited := 31, faults := 2, sweepNumber := 6,
                    line := .window { v with command := .enumerate, origin := .pass } [] 7 0 }).state = .running
    ∧ (t { run with state := .enumerating, visited := 31, faults := 2, sweepNumber := 6,
                    line := .window { v with command := .enumerate, origin := .pass } [] 7 0 }).faults = 0
    ∧ (t { run with state := .enumerating, visited := 31, faults := 2, sweepNumber := 6,
                    line := .window { v with command := .enumerate, origin := .pass } [] 7 0 }).sweepNumber = 1
    ∧ (t { run with state := .enumerating, visited := 30,
                    line := .window { v with command := .enumerate, origin := .pass } [] 7 0 }).state
        = .enumerating := by decide +kernel

/-- An entry to OFFLINE blocks the panel's session and offers PANEL_OFFLINE (R165). -/
theorem witness_FailuresMoveThePanel_offline :
    let v : Visit := { address := 31, command := .poll, origin := .urgent, stamp := 4, stayed := true }
    let base := keypad Session.initial ((routed RouteEntry.initial).setEntry 34
      { mode := .single, target := 2, mask := 0, cursor := 0 })
    let s := (base.setString 15 (window v [] 0)).setPanel 511 { Panel.initial with health := .degraded, misses := 2 }
    let t := after (.replyTimeout 15) s
    s.holder 15 31 = some 511 ∧ (t.session 127).state = .blocked ∧ (t.session 127).offline = true
    ∧ ((t.route 2).staging.map fun e => (e.kind, e.source, e.payload)) = [(.panelOffline, 511, [15, 31, 2, 3])] := by
  decide +kernel

/-- The end of a pass by a GOOD reply, SYNC-pending, PANEL_BACK, and light levels one and two steps away (R141, R151,
R163, R166). -/
theorem witness_GoodRepliesMoveThePanel_sweeps :
    let v : Visit := { address := 31, command := .enumerate, origin := .slot, stamp := 4, stayed := true }
    let sweep : Sweep := { slots := [{ address := 31, status := .active }], probe := true, halt := false }
    let base := (routed RouteEntry.initial).setEntry 34 { mode := .single, target := 2, mask := 0, cursor := 0 }
    let s (h : Health) (x : PanelString) := onString { x with urgent := [] } (shown { Panel.initial with health := h } base)
    let got (light : Byte) (s : State) := after (.panelReply 15 (replyChars (replyBytes 2 5 0 0 light))) s
    let run := { window v [] 7 with sweep := some sweep }
    let pass := { window { v with origin := .pass } [] 7 with state := .enumerating, visited := 31, faults := 3 }
    let lit (n : Nat) (s : State) := s.setComp 511 { s.comp 511 with plan := { (s.comp 511).plan with brightness := n } }
    ((got 0 (s .offline run)).string 15).syncPending = true ∧ ((got 0 (s .present run)).string 15).syncPending = false
    ∧ ((got 0 (s .unseen run)).string 15).syncPending = true
    ∧ ((got 0 (s .offline run)).string 15).completed = 1 ∧ ((got 0 (s .offline run)).string 15).sweep = none
    ∧ (((got 40 (s .offline run)).route 2).staging.map fun e => (e.kind, e.source, e.payload))
        = [(.panelBack, 511, [15, 31, 40])]
    ∧ ((got 0 (s .unseen pass)).string 15).state = .running ∧ ((got 0 (s .unseen pass)).string 15).faults = 0
    ∧ ((got 0 (s .unseen pass)).string 15).syncPending = true
    ∧ (((got 0 (s .unseen pass)).string 15).sweep.map (·.slots)) = some [{ address := 31, status := .ready }]
    ∧ ((got 48 (lit 5 (s .present run))).comp 511).asked = some Ask.plain
    ∧ ((got 48 (lit 4 (s .present run))).comp 511).asked = none
    ∧ ((got 48 (lit 1 (s .present run))).comp 511).asked = some Ask.plain := by decide +kernel

/-- The whole record of a session that enters BLOCKED, from SHOWING and from WAITING (R81). -/
theorem witness_BlockCausesBlockSessions_record :
    let full : Session := { Session.initial with
      bound := true, display := 511, digits := [1, 2], access := true, destination := some 9, car := 63, deck := .upper,
      refusal := .restricted, fallback := .busy, timer := some 4, retiredTicket := 3, retiredRoute := some 7,
      retiredKind := .answered, withdrawal := .unbound }
    let s (x : Session) := (keypad Session.initial running).setSession 127 x
    let held : Session := { full with state := .waiting, ticket := 6, route := some 2, redirected := true }
    let blank : Session := { Session.initial with bound := true, display := 511, state := .blocked }
    (setBlockCause .offline 127 (s { full with state := .showing })).session 127
        = { blank with offline := true, retiredTicket := 3, retiredRoute := some 7, retiredKind := .answered,
                       withdrawal := .unbound }
    ∧ (setBlockCause .evac 127 (s held)).session 127
        = { blank with evac := true, retiredTicket := 6, retiredRoute := some 2, retiredKind := .withdrawn,
                       withdrawal := .evac } := by decide +kernel

/-- What the Content Store and the device record's mark are after a miss, a hit and no lookup (R11, R124). -/
theorem witness_RecompositionBuildsThePlan_store :
    let r := { DisplayRecord.initial with binding := .free, enable := true, template := some 5 }
    let t (z : Zone) (s : State) := after (.recompose 511) (asking r z s)
    let held := (running.setSlot 16 { Slot.initial with state := .valid, item := some 5 }).setSlot 17
      { Slot.initial with state := .valid, item := some 21 }
    let s := held.withCst { held.cst with recency := tset held.cst.recency 1 [1, 0] }
    let u := t Zone.initial running
    u.cst.misses = 1 ∧ (u.cst.queue.map fun e => (e.slot, e.item)) = [(16, 5)] ∧ (u.slot 16).state = .filling
    ∧ tget u.mir.dirty 1400 false = true
    ∧ (t { Zone.initial with priority := .evacuate, item := some 4090 } running).cst.misses = 0
    ∧ tget (t { Zone.initial with priority := .evacuate, item := some 4090 } running).mir.dirty 1400 false = false
    ∧ (t Zone.initial s).cst.misses = 0 ∧ tget (t Zone.initial s).cst.recency 1 [] = [0, 1] := by decide +kernel

/-- A GOOD reply of a panel that left the schedule during its visit (R152). -/
theorem witness_GoodRepliesMoveThePanel_left :
    let v : Visit := { address := 31, command := .enumerate, origin := .slot, stamp := 4, stayed := false }
    let slot (a : Nat) (x : SlotStatus) : SweepSlot := { address := a, status := x }
    let w (l : List SweepSlot) : Option Sweep := some { slots := l, probe := false, halt := true }
    let old := { Panel.initial with health := .degraded, misses := 2, keyAck := 1 }
    let s (x : PanelString) := onString { x with urgent := [], schedule := [30] } (shown old running)
    let got (bytes : List Byte) (x : PanelString) := after (.panelReply 15 (replyChars bytes)) (s x)
    let good := replyBytes 2 5 0x14 7 40
    let other := replyBytes 2 4 0 0 0
    let run := { window v [] 7 with sweep := w [slot 30 .ready, slot 31 .active] }
    let pass := { window { v with origin := .pass } [] 7 with state := .enumerating, visited := 31 }
    (replyFields 31 .enumerate good).isSome = true ∧ (replyFields 31 .enumerate other).isSome = true
    ∧ (got good run).panel 511 = old ∧ (got other run).panel 511 = old
    ∧ ((got good run).string 15).sweep = w [slot 30 .ready] ∧ ((got good run).string 15).line = .free
    ∧ ((got other run).display 511).status = .bound ∧ ((got other run).receipt 511).verdict = .unset
    ∧ ((got good { run with sweep := w [slot 31 .active] }).string 15).completed = 1
    ∧ ((got good pass).string 15).state = .running ∧ (got good pass).panel 511 = old := by decide +kernel

/-! ## Choices the log marks (logs 53 to 57) -/

/-- A take of kind NONE on a BOUND display, a START with a hold-off running, and an entry that another window comes
to cover (logs 53, 54, 55). -/
theorem test_unbound_record_hold_off_and_covering :
    let bound := (takeDisplay 511 [4, 15, 31, 30, 0xFF, 0xFF, 15, 9, 3, 127, 0, 0] running).1
    let held := State.reset.withEru { State.reset.eru with requestHold := 8 }
    let sub := running.setLine 3 { FireLine.initial with mapItem := 7, resolved := 4093, substituted := true }
    let old := tset (Vector.replicate 4 LockWindow.initial) 0 { valid := true, base := 7, mask := 0xFFF }
    let new := tset (Vector.replicate 4 LockWindow.initial) 3 { valid := true, base := 0, mask := 0 }
    let map : Vector (Word32 × Nat) 4 := tset (Vector.replicate 4 (0, 4093)) 3 (1, 7)
    (bound.display 511).status = .bound
    ∧ (takeDisplay 511 [0, 9, 9, 9, 9, 9, 9, 9, 9, 9, 9, 9] bound).1.display 511 = DisplayRecord.initial
    ∧ (after (.run true) held).dev.state = .loading ∧ (after (.run true) held).eru.requestHold = 0
    ∧ ((resolveEntry map old new 3 sub).line 3).resolved = 4093
    ∧ ((resolveEntry map (Vector.replicate 4 LockWindow.initial) new 3 sub).line 3).resolved = 7 := by
  decide +kernel

/-- A fourth fault in WAKING whose run has fallen, and with its run up, and the sweep after sweep 2^32 - 1 (logs 56
and 57). -/
theorem test_fault_in_waking_and_last_sweep_number :
    let x := { powered .waking with faults := 3, parkOwed := true }
    let fallen := { x with settings := { x.settings with runRequest := false } }
    let raised := { x with settings := { x.settings with runRequest := true } }
    let fault (x : PanelString) := (after (.supplyFault 15) (onString x running)).string 15
    let last := { powered .running with sweepTimer := some 0, sweepNumber := 0xFFFFFFFF }
    let t := (after (.sweepIntervalExpiry 15) (onString last running)).string 15
    (fault fallen).state = .fault ∧ (fault fallen).hold = some 5000 ∧ (fault fallen).faults = 4
    ∧ (fault raised).state = .faultLocked
    ∧ t.sweepNumber = 0 ∧ t.sweep.map (·.probe) = some true := by decide +kernel

/-! ## What the commands offer -/

/-- Every routing entry SINGLE with route 2 as its target, and route 2 enabled. -/
def recording (s : State) : State :=
  (s.withEru { s.eru with
    table := Vector.replicate 40 { mode := .single, target := 2, mask := 0, cursor := 0 } }).setRoute 2
    { Route.initial with enabled := true }

/-- The events that route 2 holds: kind, source and payload. -/
def recorded (s : State) : List (EventKind × Nat × List Byte) :=
  (s.route 2).staging.map fun e => (e.kind, e.source, e.payload)

/-- The car records' marks, and what the two resets leave of the dirty set (R25, R45). -/
theorem test_reset_marks :
    let s := running.withMir { running.mir with dirty := Vector.replicate 1401 true, next := 9 }
    tget (markCars State.reset).mir.dirty 799 false = false
    ∧ tget (markCars State.reset).mir.dirty 800 false = true
    ∧ tget (markCars State.reset).mir.dirty 863 false = true
    ∧ tget (markCars State.reset).mir.dirty 864 false = false
    ∧ tget s.mir.dirty 800 false = true ∧ (tlist (after .powerOnReset s).mir.dirty).any id = false
    ∧ (tlist (after (.softReset true) s).mir.dirty).any id = false
    ∧ (after (.softReset true) s).mir.next = 0 := by
  decide +kernel

/-- The fourth failure in a row: PRESENCE and the notices of R178 reach the other blocks; from DETACHED(BOARD) and
in IDLE none of them (R41, R177). -/
theorem witness_SequenceEndsFreeThePort_notices :
    let s (p : Presence) (d : DeviceState) :=
      (flying .supplyRead (recording (lit { Lantern.initial 7 9 with state := .expected, expected := 2 }
        (waitingOn 2 (inState d .outside))))).withDpm { Dpm.initial with presence := p, changed := 1, counting := true }
    let t (p : Presence) (d : DeviceState) :=
      endSequence false ((s p d).withPort { (s p d).port with failures := 3 })
    recorded (t .attached .running) = [(.presence, 0, [1, 3, 4])]
    ∧ ((t .attached .running).session 127).state = .fallback
    ∧ (t .attached .running).lantern 511 = some (Lantern.initial 7 9)
    ∧ (t .attached .stopping).dev.stopLost = true
    ∧ recorded (t .detachedBoard .running) = [] ∧ (t .detachedBoard .running).dpm.counting = false
    ∧ (t .detachedBoard .running).cause = 0x0400
    ∧ recorded (t .attached .idle) = [] ∧ ((t .attached .idle).session 127).state = .waiting
    ∧ (endSequence true ((s .detachedBoard .running).withPort { Port.initial with boardLost := true })).dpm
        = { Dpm.initial with presence := .detachedBoard, changed := 1, counting := true } := by decide +kernel

/-- The end of a scan: with its rescan-pending flag, with another area requested, with none, and in STOPPING (R33). -/
theorem witness_CounterReadPassesOrBegins_ends :
    let c (p : AreaPhase) (r : Bool) : AreaCondition := { phase := p, rescan := r }
    let s (rescan : Bool) (cells : AreaPhase) (d : DeviceState) := (inState d .outside).withScan
      { Scanner.initial with
        place := some (.counter .overrides 20), lastScanned := .overrides,
        areas := tset (tset Scanner.initial.areas 2 (c .inFlight rescan)) 0 (c cells true) }
    let t (rescan : Bool) (cells : AreaPhase) (d : DeviceState) := (endScan .overrides (s rescan cells d)).scan
    (t true .requested .running).place = some (.counter .cells 0)
    ∧ (t true .requested .running).lastScanned = .cells
    ∧ (t true .requested .running).area .cells = c .inFlight true
    ∧ (t true .requested .running).area .overrides = c .requested false
    ∧ (t true .idle .running).place = some (.counter .overrides 20)
    ∧ (t true .idle .running).area .overrides = c .inFlight false
    ∧ (t false .idle .running).place = none ∧ (t false .idle .running).area .overrides = c .idle false
    ∧ (t true .requested .stopping).place = none ∧ (t true .requested .stopping).lastScanned = .overrides := by
  decide +kernel

/-- Eighth torn takes of each kind of cell, the new takes of a display and an answer cell, and the last cells of
two areas (R30, R31, R33). -/
theorem witness_CellTakeIsSorted_owners :
    let s (a : Area) (g i torn : Nat) (u : State) :=
      let v := flying (.cellTake a (g * 32 + i)) (scanning (.cell a g i 5 true) (recording u))
      v.withScan { v.scan with torn := tset v.scan.torn (g * 32 + i) torn, lastScanned := a }
    let read (body : List Byte) := Instr.cellTake (.read 0x10007 (body ++ [7, 0, 1, 0]) 0x10007)
    let torn := Instr.cellTake (.read 0x10007 (List.replicate 8 0 ++ [6, 1, 0, 0]) 5)
    let display := after (read (displayBody 2 15 31 7 253 0 ++ List.replicate 12 0)) (s .cells 15 31 3 running)
    let answer := after (read [6, 0, 1, 7, 1, 0, 30, 0])
      (s .answers 19 31 0 (waitingOn 2 (keypad Session.initial (attached running))))
    recorded (after torn (s .cells 15 31 7 running)) = [(.cellStuck, 511, [7, 0, 6, 1, 5, 0])]
    ∧ recorded (after torn (s .answers 19 31 7 running)) = [(.cellStuck, 639, [7, 0, 6, 1, 5, 0])]
    ∧ recorded (after torn (s .overrides 20 31 7 running)) = [(.cellStuck, 1055, [7, 0, 6, 1, 5, 0])]
    ∧ recorded (after torn (s .cells 15 31 6 running)) = []
    ∧ (display.display 511).status = .bound ∧ (display.string 15).schedule = [31]
    ∧ display.receipt 511 = { count := 0x10007, verdict := .accepted, reason := .unset }
    ∧ display.scan.place = none ∧ display.scan.area .cells = AreaCondition.idle
    ∧ (answer.session 127).state = .showing ∧ (answer.receipt 639).verdict = .used
    ∧ answer.scan.place = none := by decide +kernel

/-- The eighth torn live take in a row, and the seventh (R28, R31). -/
theorem witness_LiveTakeAppliesWholeOrNothing_stuck :
    let s (n : Nat) := flying .liveTake ((recording running).withScan { running.scan with liveTorn := n })
    let t (n : Nat) := after (.liveTake (.read 2 (liveBurst 0 0x11 2) 3)) (s n)
    recorded (t 7) = [(.cellStuck, 1536, [2, 0, 2, 0, 3, 0])] ∧ (t 7).scan.liveTorn = 0
    ∧ recorded (t 6) = [] ∧ (t 6).scan.liveTorn = 7 := by decide +kernel

/-- A run raised by a take of settings, one that stays, and one raised outside OFF (R138, R139, R140). -/
theorem witness_StringsComeUpAndPark_raised :
    let v (run : Bool) : Vector StringSettings 16 :=
      Vector.replicate 16 { StringSettings.initial with runRequest := run, settleTime := 40, rateCode := 2 }
    let s (x : PanelString) := recording (shown { Panel.initial with health := .present } (onString x running))
    let t (x : PanelString) := changeSettings (v true) 15 (s x)
    (recording (onString (powered .off) running)).effectiveRun 15 = true
    ∧ ((t PanelString.initial).string 15).state = .powering
    ∧ ((t PanelString.initial).string 15).settle = some 40 ∧ ((t PanelString.initial).string 15).rate = 2
    ∧ (t PanelString.initial).panel 511 = Panel.initial
    ∧ tget (t PanelString.initial).mir.dirty 1391 false = true
    ∧ recorded (t PanelString.initial) = [(.stringState, 15, [0, 1, 0])]
    ∧ recorded (t { PanelString.initial with state := .fault, hold := some 9 }) = []
    ∧ ((t { PanelString.initial with state := .fault, hold := some 9 }).string 15).hold = some 9
    ∧ recorded (changeSettings (v true) 15 (s (powered .running))) = []
    ∧ (runChanged 15 false ((recording (onString (powered .off) running)))).eru
        = (stringTold 15 .off .powering 0 (recording (onString (powered .off) running))).eru := by decide +kernel

/-- The STRING_STATE of each command that moves a string (R139). -/
theorem witness_StringsComeUpAndPark_told :
    let st (x : PanelString) (d : DeviceState) := recording (onString x (inState d .outside))
    let told (c : Instr) (x : PanelString) (d : DeviceState) := recorded (after c (st x d))
    let bare (x : PanelString) := recorded (after (.wakeTimeExpiry 15) (recording (running.setString 15 x)))
    let e (old new faults : Byte) : EventKind × Nat × List Byte := (.stringState, 15, [old, new, faults])
    told (.settleExpiry 15) { powered .powering with settle := some 0, faults := 3 } .running = [e 1 2 3]
    ∧ told (.wakeSent 15) { powered .waking with line := .sending .wake [] none, parkOwed := true } .running
        = [e 2 6 0]
    ∧ told (.wakeTimeExpiry 15) { powered .waking with wake := some 0, faults := 3 } .running = [e 2 3 3]
    ∧ bare { powered .waking with wake := some 0, faults := 3 } = [e 2 3 3, e 3 4 0]
    ∧ told (.settleExpiry 15) (powered .powering) .running = [] := by decide +kernel

/-- The STRING_STATE of a string that enters OFF, and leaves it at once where its run is 1 (R139). -/
theorem witness_StringsComeUpAndPark_off :
    let told (c : Instr) (x : PanelString) (d : DeviceState) :=
      recorded (after c (recording (onString x (inState d .outside))))
    let e (old new faults : Byte) : EventKind × Nat × List Byte := (.stringState, 15, [old, new, faults])
    let sleep : Line := .sending .sleep [] none
    told (.sleepSent 15) { powered .parking with line := sleep, faults := 3 } .stopping = [e 6 0 0]
    ∧ told (.sleepSent 15) { powered .parking with line := sleep, faults := 3 } .running = [e 6 0 0, e 0 1 0]
    ∧ told (.faultHoldExpiry 15) { powered .fault with hold := some 0, faults := 3 } .stopping = [e 7 0 0]
    ∧ told (.faultHoldExpiry 15) { powered .fault with hold := some 0, faults := 3 } .running = [e 7 1 3] := by decide +kernel

/-- The STRING_STATE of a run that falls, and the two events of a supply fault (R139, R144). -/
theorem witness_SupplyFaultCutsTheString_told :
    let st (x : PanelString) (d : DeviceState) := recording (onString x (inState d .outside))
    let fault (x : PanelString) := recorded (after (.supplyFault 15) (st x .running))
    let e (old new faults : Byte) : EventKind × Nat × List Byte := (.stringState, 15, [old, new, faults])
    recorded (runChanged 15 true (st { powered .running with faults := 2 } .stopping)) = [e 4 5 2, e 5 6 2]
    ∧ recorded (runChanged 15 true (st { powered .faultLocked with faults := 4 } .stopping)) = [e 8 0 0]
    ∧ fault (powered .running) = [(.stringFault, 15, [4, 1]), e 4 7 1]
    ∧ fault { powered .running with faults := 3 } = [(.stringFault, 15, [4, 4]), e 4 8 4] := by decide +kernel

/-- A SYNC that ends in DRAINING with no sweep parks the string; until then it drains (log 58). -/
theorem witness_SyncsAndTelegramEnds_draining :
    let busy := recording (onString { powered .running with line := .sending .sync [] none } stopping)
    let s := runChanged 15 true busy
    let t := after (.telegramSent 15) s
    (s.string 15).state = .draining ∧ (s.string 15).line = .sending .sync [] none
    ∧ (s.string 15).sweep = none
    ∧ t.string 15 = PanelString.parked { s.string 15 with line := .free }
    ∧ recorded t = [(.stringState, 15, [4, 5, 0]), (.stringState, 15, [5, 6, 0])] := by decide +kernel

/-- Offers of a class in each device state, and the entry of a class (R87, R88). -/
theorem witness_RotateEntries_classes :
    let offered (k : EventKind) (s : State) := recorded (offerClass k 9 [1] s)
    let only (j : Nat) := (recording running).withEru { (recording running).eru with
      table := tset (Vector.replicate 40 RouteEntry.initial) j { mode := .single, target := 2, mask := 0, cursor := 0 } }
    offered .presence (recording stopping) = [(.presence, 9, [1])]
    ∧ offered .presence (recording (inState .loading .floorLabels)) = [(.presence, 9, [1])]
    ∧ offered .presence (recording (inState .loading .live)) = []
    ∧ offered .presence (recording (inState .idle .outside)) = []
    ∧ (offered .presence (only 37)).length = 1 ∧ offered .presence (only 36) = []
    ∧ (offered .carArrival (only 32)).length = 1 ∧ (offered .carMode (only 33)).length = 1
    ∧ (offered .panelType (only 34)).length = 1 ∧ (offered .stringFault (only 35)).length = 1
    ∧ (offered .pinRefused (only 36)).length = 1 ∧ (offered .fireLine (only 38)).length = 1
    ∧ (offered .cellStuck (only 39)).length = 1 := by decide +kernel

/-- A check that moves presence makes the notices of R178, and one that does not makes none (R177). -/
theorem witness_HeartbeatMovesPresence_notices :
    let s (n : Nat) := flying .heartbeatRead ((recording (waitingOn 2 running)).withDpm
      { Dpm.initial with presence := .attached, unchanged := n, checkPending := true, lastSeen := 4 })
    recorded (after (.heartbeatRead (some 4)) (s 2)) = [(.presence, 0, [1, 2, 0])]
    ∧ ((after (.heartbeatRead (some 4)) (s 2)).session 127).state = .fallback
    ∧ recorded (after (.heartbeatRead (some 4)) (s 1)) = []
    ∧ ((after (.heartbeatRead (some 4)) (s 1)).session 127).state = .waiting := by decide +kernel

/-- The events of a telegram, in the order of R52, and of a loss (R47 to R50, R53). -/
theorem witness_TelegramUpdatesItsCar_events :
    let x := { Car.initial with state := .lost, lower := 3, upper := 4, sequence := 9, gaps := 7, door := .closed }
    let s (x : Car) := (recording running).setCar 7 x
    let t (x : Car) := recorded (after (.carTelegram 0 (carTelegramChars 7 [10, 5, 6, 4, 1, 0x81])) (s x))
    t x = [(.carBack, 7, [5, 6, 1, 10]), (.carMode, 7, [0, 1, 5, 6]),
      (.carArrival, 7, [0, 5, 1, 1, 1, 1]), (.carArrival, 7, [1, 6, 1, 1, 1, 1])]
    ∧ t { x with state := .unheard } = []
    ∧ t { x with state := .stale, mode := .independent, door := .opening } = []
    ∧ recorded (after (.carLostExpiry 7) ((s { x with state := .stale, lastTime := 0 }).setLink 0
        { receiver := .hunt, errors := 0x102 })) = [(.carLost, 7, [3, 4, 7, 2, 1])] := by decide +kernel

/-- The events of a fill: a bus error, a bad length, a refused pin, and none otherwise (R128, R131). -/
theorem witness_FillsCompleteOrFault_events :
    let e : FillEntry := { slot := 63, item := 3, refill := false, preFill := false, started := true }
    let x := { Slot.initial with state := .filling, item := some 3 }
    let covered (n : Nat) (s : State) := s.withCst { s.cst with
      windows := tset s.cst.windows 3 { valid := true, base := 3, mask := 0xFFF },
      slots := tbuild 64 fun i => { s.slot i with pinned := decide (48 ≤ i) && decide (i < 48 + n) } }
    let t (answer : FillRead) (n : Nat) (x : Slot) := after (.fill answer) (covered n (recording (filling e x running)))
    recorded (t .busError 0 x) = [(.contentFault, 3, [1, 0, 0, 3])] ∧ (t .busError 0 x).cause = 0x1000
    ∧ recorded (t (.read 0 0x1F1 []) 0 x) = [(.contentFault, 3, [2, 0xF1, 1, 3])]
    ∧ recorded (t (.read 0 1 [9]) 15 x) = [(.pinRefused, 3, [3, 3, 15])]
    ∧ recorded (t (.read 0 1 [9]) 14 x) = []
    ∧ recorded (t .busError 0 { x with refetch := true }) = [] := by decide +kernel

/-- CONTROL as it reads: RUN as held, RESET as 0 (R21). -/
theorem witness_CauseAndStateWords_control :
    let idle := inState .idle .outside
    running.windowRead 0x08 32 = 1 ∧ idle.windowRead 0x08 32 = 0
    ∧ (after (.run true) idle).windowRead 0x08 32 = 1 ∧ (after (.run false) running).windowRead 0x08 32 = 0
    ∧ (after (.softReset true) running).windowRead 0x08 32 = 0
    ∧ (after .powerOnReset running).windowRead 0x08 32 = 0 := by decide +kernel

/-- A route that may not stop yet: its own record write in flight (log 13), staged events beside a page that takes
them or a page to draw (R106); and the mark of one that discards (R93, R108). -/
theorem witness_ClosesBecomePending_waits :
    let x := { Route.initial with openPage := some 5, records := 13, staging := [someEvent] }
    let s (x : Route) := stopping.setRoute 7 x
    let supplied (s : State) := s.withEru { s.eru with lastRead := 64 }
    let stops (s : State) := ((after (.routeStopPoint 7) s).route 7).stopped
    let full := { x with records := 14 }
    (s x).available = 0 ∧ (supplied (s full)).available = 64
    ∧ stops (s x) = false ∧ stops (s full) = true ∧ stops (s { x with closing := some .age }) = true
    ∧ stops (supplied (s full)) = false ∧ stops (supplied (s { full with staging := [] })) = true
    ∧ stops (flying (.recordWrite 7) (s { full with staging := [] })) = false
    ∧ stops (flying (.recordWrite 6) (s full)) = true
    ∧ tget (after (.routeStopPoint 7) (s full)).mir.dirty 1399 false = true
    ∧ tget (after (.routeStopPoint 7) (s { full with staging := [] })).mir.dirty 1399 false = false := by
  decide +kernel

/-- The drain of a RUNNING string: READY slots at a free line, and a busy line with READY slots, with none left and
with no sweep (R143, R147, R148). -/
theorem witness_StringsComeUpAndPark_drains :
    let l (a : Nat) (st : SlotStatus) : SweepSlot := { address := a, status := st }
    let sweep (ls : List SweepSlot) : Option Sweep := some { slots := ls, probe := false, halt := false }
    let s (x : PanelString) := (stopping.setString 15 x).setPanel 510 { Panel.initial with health := .offline }
    let t (x : PanelString) := (runChanged 15 true (s x)).string 15
    let busy : Line := .sending .sync [] none
    let x := { powered .running with urgent := [31], completed := 6 }
    let drained := { powered .draining with completed := 6 }
    t { x with sweep := sweep [l 30 .ready, l 31 .ready] }
      = { drained with sweep := sweep [l 30 .skipped, l 31 .ready] }
    ∧ t { x with sweep := sweep [l 31 .active, l 30 .ready] }
      = { drained with sweep := sweep [l 31 .active, l 30 .skipped] }
    ∧ t { x with line := busy, sweep := sweep [l 30 .ready] }
      = { drained with line := busy, sweep := sweep [l 30 .ready] }
    ∧ t { x with line := busy, sweep := sweep [l 30 .good] }
      = PanelString.swept { drained with line := busy, sweep := sweep [l 30 .good] }
    ∧ t { x with line := busy } = { drained with line := busy } := by decide +kernel

/-- A BOUND display that keeps an ask or none, and what it waits on. -/
def bound (d : Nat) (b : Binding) (c : Composition) (s : State) : State :=
  (s.setDisplay d { DisplayRecord.initial with status := .bound, binding := b }).setComp d c

/-- The recompositions of a telegram, of silence and of the lantern timers (R9, R45, R55; log 12). -/
theorem witness_TelegramUpdatesItsCar_asks :
    let c := { Composition.initial with stamp := 65535, wait := .anyFill }
    let s := (lit { Lantern.initial 7 9 with state := .expected, expected := 2 }
      (bound 511 (.hallLantern 7 9) c (bound 0 (.carPosition 7 .lower) c (bound 1 (.lobbyOverview [3, 7]) c
      (bound 2 (.carPosition 3 .lower) c (bound 3 (.lobbyOverview [7]) { c with asked := some Ask.completion }
        running)))))).setCar 7 { Car.initial with state := .fresh, motion := .moving }
    let t := after (.carTelegram 0 (carTelegramChars 7 [1, 9, 0xFF, 4, 1, 0])) s
    let asks (t : State) := ([0, 1, 2, 3, 511].map fun d => (t.comp d).asked)
    lanternAsk s t 511 = some Ask.session ∧ carAsk 7 s 511 = none ∧ carAsk 7 s 1 = some Ask.plain
    ∧ asks t = [some Ask.plain, some Ask.plain, none, some Ask.completion, some Ask.session]
    ∧ t.comp 511 = { c with asked := some Ask.session }
    ∧ asks (after (.carStaleExpiry 7) s) = [some Ask.plain, some Ask.plain, none, some Ask.completion, none]
    ∧ asks (after (.carLostExpiry 7) s) = asks t
    ∧ asks (lanternsDetached s) = [none, none, none, some Ask.completion, some Ask.session]
    ∧ asks (assignLanterns 7 9 (attached s)) = asks (lanternsDetached s) := by decide +kernel

/-- The recompositions of the lantern timers and of a raise at 15 (R55, R57 to R59). -/
theorem witness_LanternLeavesArriving_asks :
    let s (x : Lantern) := lit x (bound 511 (.hallLantern 3 9) Composition.initial running)
    let asked (t : State) := (t.comp 511).asked
    let x := { Lantern.initial 3 9 with expected := 15 }
    asked (after (.lanternTimeExpiry 511) (s { x with state := .arriving, remaining := some 0 }))
      = some Ask.session
    ∧ asked (after (.expectationExpiry 511) (s { x with state := .arriving, lastIncrement := 80000 }))
      = some Ask.session
    ∧ lanternAsk (s { x with state := .expected }) (assignLanterns 3 9 (attached (s { x with state := .expected })))
      511 = none
    ∧ asked (assignLanterns 3 9 (attached (s { x with state := .expected }))) = none
    ∧ asked (assignLanterns 3 9 (attached (lit x running))) = none := by decide +kernel

/-- What the end of a fill asks of the displays that wait, and the oldest id of a full bad-id list (R15 to R17,
R129). -/
theorem witness_FillsCompleteOrFault_asks :
    let e : FillEntry := { slot := 63, item := 3, refill := false, preFill := false, started := true }
    let x := { Slot.initial with state := .filling, item := some 3 }
    let waits (w : Wait) := { Composition.initial with wait := w }
    let naming : Composition := { Composition.initial with plan := { Plan.initial with item := 3 } }
    let s (e : FillEntry) (x : Slot) (n : Nat) := (filling e x (bound 0 .free (waits (.fill 3))
      (bound 1 .free (waits .anyFill) (bound 2 .free (waits (.release 100)) (bound 511 .free naming running))))).withCst
      { (filling e x running).cst with
        badIds := (List.range n).map fun i => { item := 100 + i, remaining := 9 } }
    let asks (t : State) := [0, 1, 2, 511].map fun d => (t.comp d).asked
    let re := s { e with refill := true } { x with state := .valid }
    let done := some Ask.completion
    let plain := some Ask.plain
    (s e x 8).cst.badIds.length = 8
    ∧ asks (after (.fill .busError) (s e x 8)) = [none, plain, plain, none]
    ∧ asks (after (.fill .busError) (s e x 7)) = [none, plain, none, none]
    ∧ (after (.fill .busError) (s e x 8)).comp 0 = waits (.release 3)
    ∧ asks (after (.fill .busError) (re 8)) = [none, plain, none, none]
    ∧ (after (.fill .busError) (re 8)).comp 0 = waits (.fill 3)
    ∧ asks (after (.fill (.read 0 1 [9])) (s e x 8)) = [done, done, none, none]
    ∧ asks (after (.fill (.read 0 1 [9])) (re 8)) = [done, done, none, done]
    ∧ asks (after (.fill .busError) (s e { x with refetch := true } 8)) = [none, none, none, none] := by
  decide +kernel

end Sys2Proof.Tests
end

section
/-! # Entries of the tables

One rule for each table: an entry after its replacement, and an entry under what keeps off its block. -/

namespace Sys2Proof.Machine

variable {s t u : State} {n m k a d : Nat}

/-! ## Entries of the tables after their replacement, and under what keeps off their block -/

theorem comp_setComp {c : Composition} (hd : d < 512) :
    (s.setComp d c).comp d = c := tget_tset_self _ _ _ _ hd

theorem comp_setComp_ne {c : Composition} {e : Nat} (h : e ≠ d) :
    (s.setComp d c).comp e = s.comp e := tget_tset_ne _ _ _ _ _ h.symm

theorem session_setSession {x : Session} (hn : n < 128) : (s.setSession n x).session n = x :=
  tget_tset_self _ _ _ _ hn

theorem session_setSession_ne {x : Session} (h : m ≠ n) : (s.setSession n x).session m = s.session m :=
  tget_tset_ne _ _ _ _ _ h.symm

theorem session_beyond (hn : ¬ n < 128) : s.session n = Session.initial := tget_ge _ _ _ (by omega)

theorem display_setDisplay {r : DisplayRecord} (hd : d < 512) : (s.setDisplay d r).display d = r :=
  tget_tset_self _ _ _ _ hd

theorem display_setDisplay_ne {r : DisplayRecord} {e : Nat} (h : e ≠ d) :
    (s.setDisplay d r).display e = s.display e := tget_tset_ne _ _ _ _ _ h.symm

theorem lantern_setLantern {x : Option Lantern} (hd : d < 512) : (s.setLantern d x).lantern d = x :=
  tget_tset_self _ _ _ _ hd

theorem lantern_setLantern_ne {x : Option Lantern} {e : Nat} (h : e ≠ d) :
    (s.setLantern d x).lantern e = s.lantern e := tget_tset_ne _ _ _ _ _ h.symm

theorem panel_setPanel {x : Panel} (hk : k < 512) : (s.setPanel k x).panel k = x :=
  tget_tset_self _ _ _ _ hk

theorem panel_setPanel_ne {x : Panel} {j : Nat} (h : j ≠ k) : (s.setPanel k x).panel j = s.panel j :=
  tget_tset_ne _ _ _ _ _ h.symm

theorem string_setString_ne {x : PanelString} {j : Nat} (h : j ≠ k) :
    (s.setString k x).string j = s.string j := tget_tset_ne _ _ _ _ _ h.symm

theorem string_beyond (hk : ¬ k < 16) : s.string k = PanelString.initial := tget_ge _ _ _ (by omega)

theorem OnlyIn.comp {bs : List Block} (h : OnlyIn bs s t) (hb : Block.cmp ∉ bs) (d : Nat) :
    t.comp d = s.comp d := by
  have cmp : t.cmp = s.cmp := h .cmp hb
  simp only [State.comp, cmp]

theorem OnlyIn.session {bs : List Block} (h : OnlyIn bs s t) (hb : Block.drq ∉ bs) (n : Nat) :
    t.session n = s.session n := by
  have drq : t.drq = s.drq := h .drq hb
  simp only [State.session, drq]

theorem OnlyIn.display {bs : List Block} (h : OnlyIn bs s t) (hb : Block.ddir ∉ bs) (d : Nat) :
    t.display d = s.display d := by
  have ddir : t.ddir = s.ddir := h .ddir hb
  simp only [State.display, ddir]

theorem OnlyIn.lantern {bs : List Block} (h : OnlyIn bs s t) (hb : Block.clu ∉ bs) (d : Nat) :
    t.lantern d = s.lantern d := by
  have clu : t.clu = s.clu := h .clu hb
  simp only [State.lantern, clu]

theorem OnlyIn.string {bs : List Block} (h : OnlyIn bs s t) (hb : Block.stc ∉ bs) (k : Nat) :
    t.string k = s.string k := string_same h hb

theorem OnlyIn.panel {bs : List Block} (h : OnlyIn bs s t) (hb : Block.stc ∉ bs) (p : Nat) :
    t.panel p = s.panel p := by
  have stc : t.stc = s.stc := h .stc hb
  simp only [State.panel, stc]

theorem OnlyIn.zone {bs : List Block} (h : OnlyIn bs s t) (hb : Block.ovr ∉ bs) (z : Nat) :
    t.zone z = s.zone z := by
  have ovr : t.ovr = s.ovr := h .ovr hb
  simp only [State.zone, ovr]

theorem OnlyIn.trans {bs : List Block} (h : OnlyIn bs s t) (k : OnlyIn bs t u) : OnlyIn bs s u :=
  fun b hb => Block.same_trans (h b hb) (k b hb)

end Sys2Proof.Machine
end

section
/-! # Recomposition

The live plans byte by byte, the cases of R11, what a recomposition leaves, and the statement about
RECOMPOSE. -/

namespace Sys2Proof.Machine

/-! ## What the field bytes of a plan are (R61 to R63, R84) -/

theorem padTo_of_length {n : Nat} {b : List Byte} (h : b.length = n) : padTo n b = b := by
  simp [padTo, ← h]

/-- Bytes filled with zeros. -/
theorem padTo_append_zeros {n : Nat} {b : List Byte} (h : b.length = n) (k : Nat) :
    padTo (n + k) b = b ++ List.replicate k 0 := by
  unfold padTo
  rw [List.take_of_length_le (by omega), show n + k - b.length = k by omega]

@[simp] theorem floorLabel_length (s : State) (f : Option Nat) : (s.floorLabel f).length = 4 := by
  cases f with
  | none => rfl
  | some f => exact padTo_length 4 _

@[simp] theorem carLabel_length (s : State) (car : Nat) : (s.carLabel car).length = 2 := padTo_length 2 _

/-- A CAR_POSITION plan of a four-character label has its five bytes behind it and one 0 (R61). -/
theorem positionFields_eq {label : List Byte} (h : label.length = 4) (arrow motion : Nat) (fire : Bool)
    (deck : Nat) (full : Bool) : positionFields label arrow motion fire deck full =
      label ++ [BitVec.ofNat 8 arrow, BitVec.ofNat 8 motion, flagByte fire, BitVec.ofNat 8 deck,
        flagByte full, 0] := by
  unfold positionFields
  rw [padTo_of_length h]
  refine padTo_append_zeros (n := 9) ?_ 1 |>.trans (List.append_assoc ..)
  rw [List.length_append, h]; rfl

/-- The arrow of an overview's place has two bits (R63). -/
theorem overviewArrow_lt (s : State) (o : Option Nat) : s.overviewArrow o < 4 := by
  cases o with
  | none => exact Nat.zero_lt_succ 3
  | some car =>
    simp only [State.overviewArrow]
    split
    · cases (s.car car).direction <;> decide
    · decide

/-- The arrow of an overview's place by the car's state and direction (R63). -/
theorem overviewArrow_eq (s : State) (o : Option Nat) : s.overviewArrow o =
    match o with
    | none => 0
    | some car => if (s.car car).state = .fresh then (s.car car).direction.code else 0 := by
  cases o with
  | none => rfl
  | some car => simp only [State.overviewArrow, beq_iff_eq]

/-- Eight two-bit arrows as two bytes (R63). -/
theorem arrowBytes (a : Nat → Nat) (h : ∀ i, a i < 4) :
    leBytes 2 ((List.range 8).map fun i => a i * 4 ^ i).sum =
      [BitVec.ofNat 8 (a 0 + 4 * a 1 + 16 * a 2 + 64 * a 3),
       BitVec.ofNat 8 (a 4 + 4 * a 5 + 16 * a 6 + 64 * a 7)] := by
  have low : ∀ x y : Nat, BitVec.ofNat 8 (x + 256 * y) = BitVec.ofNat 8 x := fun x y => by
    apply BitVec.eq_of_toNat_eq; simp
  have sum : ((List.range 8).map fun i => a i * 4 ^ i).sum =
      (a 0 + 4 * a 1 + 16 * a 2 + 64 * a 3) + 256 * (a 4 + 4 * a 5 + 16 * a 6 + 64 * a 7) := by
    simp only [List.range_succ, List.range_zero, List.nil_append, List.cons_append, List.map_cons, List.map_nil,
      List.sum_cons, List.sum_nil]
    omega
  have high : ∀ x y : Nat, x < 256 → (x + 256 * y) / 256 = y := fun x y hx => by omega
  have := h 0; have := h 1; have := h 2; have := h 3
  rw [sum]
  simp only [leBytes]
  rw [low, high _ _ (by omega)]

/-- The live plan of a CAR_POSITION display, byte by byte (R61). -/
theorem positionPlan_eq (s : State) (car : Nat) (deck : Deck) : s.positionPlan car deck =
    let x := s.car car
    let shown := match deck with | .lower => x.lowerShown | .upper => x.upperShown
    let rest := [flagByte (decide (x.mode = .fireService)), BitVec.ofNat 8 deck.code, flagByte x.full, 0]
    if x.state = .lost ∨ x.mode = .outOfService then (some 4094, zeroFields)
    else if x.state = .unheard ∨ deck = .upper ∧ shown = none then (none, noFloorText ++ [0, 0] ++ rest)
    else if x.state = .stale then (none, s.floorLabel shown ++ [0, 0] ++ rest)
    else (none, s.floorLabel shown ++
      [BitVec.ofNat 8 x.direction.code, BitVec.ofNat 8 x.motion.code] ++ rest) := by
  have blank : noFloorText.length = 4 := rfl
  have label : ∀ o, (s.floorLabel o).length = 4 := floorLabel_length s
  unfold State.positionPlan
  simp only [positionFields_eq blank, positionFields_eq (label _), List.append_assoc, List.cons_append,
    List.nil_append, Bool.or_eq_true, Bool.and_eq_true, beq_iff_eq, Option.isNone_iff_eq_none]
  cases deck with
  | lower => simp only [reduceCtorEq, if_false, and_false, false_and, or_false]; rfl
  | upper => simp only [if_true, and_true, true_and]; rfl

/-- The live plan of a HALL_LANTERN display, byte by byte (R62). -/
theorem lanternPlan_eq (s : State) (d : Nat) : s.lanternPlan d =
    (none, match s.lantern d with
      | none => [0x20, 0x20] ++ List.replicate 8 0
      | some l => match l.state with
        | .dark => [0x20, 0x20] ++ List.replicate 8 0
        | .expected => s.carLabel l.car ++ List.replicate 8 0
        | .arriving => s.carLabel l.car ++ [BitVec.ofNat 8 l.direction.code, 1] ++ List.replicate 6 0) := by
  have two : ∀ car, (s.carLabel car).length = 2 := carLabel_length s
  unfold State.lanternPlan
  cases s.lantern d with
  | none => rfl
  | some l =>
    dsimp only
    cases l.state with
    | dark => rfl
    | expected => dsimp only; rw [padTo_append_zeros (two _) 8]
    | arriving => dsimp only; rw [padTo_append_zeros (n := 4) (by simp) 6]

/-- The floor code of an overview's place by the car's state and floor (R63). -/
theorem overviewFloor_eq (s : State) (o : Option Nat) : s.overviewFloor o =
    match o with
    | none => 0xFF
    | some car => match (s.car car).state, (s.car car).lowerShown with
      | .fresh, some f | .stale, some f => BitVec.ofNat 8 f
      | _, _ => 0xFF := by
  cases o with
  | none => rfl
  | some car =>
    simp only [State.overviewFloor]
    cases (s.car car).state <;> cases (s.car car).lowerShown <;> rfl

/-- The live plan of a LOBBY_OVERVIEW display, byte by byte (R63). -/
theorem overviewPlan_eq (s : State) (cars : List Nat) : s.overviewPlan cars =
    let floor (i : Nat) : Byte := match cars[i]? with
      | none => 0xFF
      | some car => match (s.car car).state, (s.car car).lowerShown with
        | .fresh, some f | .stale, some f => BitVec.ofNat 8 f
        | _, _ => 0xFF
    let arrow (i : Nat) : Nat := match cars[i]? with
      | none => 0
      | some car => if (s.car car).state = .fresh then (s.car car).direction.code else 0
    (none, [floor 0, floor 1, floor 2, floor 3, floor 4, floor 5, floor 6, floor 7,
      BitVec.ofNat 8 (arrow 0 + 4 * arrow 1 + 16 * arrow 2 + 64 * arrow 3),
      BitVec.ofNat 8 (arrow 4 + 4 * arrow 5 + 16 * arrow 6 + 64 * arrow 7)]) := by
  unfold State.overviewPlan
  rw [arrowBytes (fun i => s.overviewArrow cars[i]?) fun i => overviewArrow_lt s _]
  simp only [overviewArrow_eq]
  rw [funext (overviewFloor_eq s)]
  rfl

/-- The arrow of SHOWING as a byte (R84). -/
theorem showingArrow_byte (origin : Nat) (o : Option Nat) : BitVec.ofNat 8 (showingArrow origin o) =
    match o with
    | none => 0
    | some f => if origin < f then 1 else if f < origin then 2 else 0 := by
  cases o with
  | none => rfl
  | some f =>
    simp only [showingArrow]
    split
    · rfl
    · split <;> rfl

/-- The live plan of a session's display, byte by byte (R84). -/
theorem keypadPlan_eq (s : State) (x : Session) : keypadPlan s x =
    let zeros (n : Nat) : List Byte := List.replicate n 0
    let digit (i : Nat) : Byte := match x.digits[i]? with
      | some n => BitVec.ofNat 8 (0x30 + n)
      | none => 0x20
    let spaces : List Byte := [0x20, 0x20, 0x20]
    let arrow : Byte := match x.destination with
      | none => 0
      | some f => if s.originOf x < f then 1 else if f < s.originOf x then 2 else 0
    match x.state with
    | .idle => (none, spaces ++ [flagByte x.access] ++ zeros 6)
    | .entering => (none, [digit 0, digit 1, digit 2, flagByte x.access] ++ zeros 6)
    | .waiting => (some 4089, spaces ++ zeros 6 ++ [1])
    | .showing => (none, spaces ++ [flagByte x.access] ++ s.carLabel x.car ++
        [BitVec.ofNat 8 x.deck.code, arrow, 0, 0])
    | .refused => (some 4095, spaces ++ zeros 5 ++ [BitVec.ofNat 8 x.refusal.code, 0])
    | .invalid => (some 4091, spaces ++ zeros 7)
    | .fallback => (some (if x.fallback = .busy then 4092 else 4090), spaces ++ zeros 7)
    | .blocked => (some 4088, spaces ++ zeros 7) := by
  unfold keypadPlan
  cases x.state with
  | fallback => simp only [beq_iff_eq]; rfl
  | showing => dsimp only; rw [← showingArrow_byte]; rfl
  | idle | entering | waiting | refused | invalid | blocked => rfl

/-! ## Resolution -/

/-- The plan of a record before its case of R11 is applied: BLANK, with the record's timer and brightness. -/
def State.basePlan (s : State) (r : DisplayRecord) : Plan :=
  { item := 4088, fields := zeroFields, banner := none, timer := r.timer,
    brightness := s.brightnessOf r, pending := false }

/-- The item of a record's live plan, the template where the kind names none (R11, R12). -/
def State.liveItem (s : State) (d : Nat) (r : DisplayRecord) : Nat :=
  (s.livePlan d r.binding).1.getD (r.template.getD 4088)

/-- An item needs no fill: it is built in, or a slot holds it VALID (R121, R124). -/
def State.isHeld (s : State) (item : Nat) : Prop :=
  4088 ≤ item ∨ (lookupItem item false s).2 = .hit

/-- `u` and `w` are the state and the wait that the lookup of an item leaves: nothing is looked up of a built-in
one (R13, R124). -/
def LooksUp (item : Nat) (s u : State) (w : Wait) : Prop :=
  (4088 ≤ item → w = .nothing ∧ u.cst = s.cst ∧ u.mir = s.mir)
  ∧ (item < 4088 → u.cst = (lookupItem item false s).1.cst ∧ u.mir = (lookupItem item false s).1.mir
      ∧ w = (lookupItem item false s).2.wait item)

variable {s : State} {d item : Nat} {p : Plan}

theorem looksUp_fetched (h : item < 4088) :
    LooksUp item s (lookupItem item false s).1 ((lookupItem item false s).2.wait item) :=
  ⟨fun k => absurd h (by omega), fun _ => ⟨rfl, rfl, rfl⟩⟩

theorem looksUp_builtIn (h : ¬ item < 4088) : LooksUp item s s .nothing :=
  ⟨fun _ => ⟨rfl, rfl, rfl⟩, fun k => absurd k h⟩

theorem completePlan_looks : LooksUp item s (completePlan item p s).1 (completePlan item p s).2.2 := by
  unfold completePlan fetched
  by_cases h : item < 4088
  · rw [if_pos (decide_eq_true h)]; exact looksUp_fetched h
  · rw [if_neg (by rw [decide_eq_true_iff]; exact h)]; exact looksUp_builtIn h

theorem resolveEvacuate_looks :
    LooksUp item s (resolveEvacuate item p s).1 (resolveEvacuate item p s).2.2 := by
  unfold resolveEvacuate fetched
  by_cases h : item < 4088
  · rw [if_pos (decide_eq_true h)]; exact looksUp_fetched h
  · rw [if_neg (by rw [decide_eq_true_iff]; exact h)]; exact looksUp_builtIn h

/-- A completed plan has its item, and content-pending where the item is not held (R13). -/
theorem completePlan_plan (hp : p.pending = false) : ∃ b, (b = true ↔ ¬ s.isHeld item)
    ∧ (completePlan item p s).2.1 = { p with item := item, pending := b } := by
  unfold completePlan fetched State.isHeld
  by_cases h : item < 4088
  · exact ⟨(lookupItem item false s).2 != .hit, by simp [h], by simp [h]⟩
  · refine ⟨false, iff_of_false Bool.false_ne_true fun k => k (Or.inl (by omega)), ?_⟩
    simp only [h, decide_false, Bool.false_eq_true, if_false]
    rw [← hp]

/-- Case 2 of R11 keeps to the override item where it is held, and else takes EVACUATE (R14). -/
theorem resolveEvacuate_plan : ∃ i, (s.isHeld item → i = item) ∧ (¬ s.isHeld item → i = 4093)
    ∧ (resolveEvacuate item p s).2.1 = { p with item := i } := by
  unfold resolveEvacuate fetched State.isHeld
  by_cases h : item < 4088
  · refine ⟨if (lookupItem item false s).2 == .hit then item else 4093, fun k => ?_, fun k => ?_, by simp [h]⟩
    · rw [if_pos]; simpa [show ¬ 4088 ≤ item by omega] using k
    · rw [if_neg]; simpa [show ¬ 4088 ≤ item by omega] using k
  · exact ⟨item, fun _ => rfl, fun k => absurd (Or.inl (by omega)) k, by simp [h]⟩

/-! The four cases of R11. -/

theorem resolvePlan_disabled (h : (s.display d).enable = false) :
    resolvePlan d s = (s, s.basePlan (s.display d), .nothing) := by
  unfold resolvePlan; simp only [h]; rfl

theorem resolvePlan_evacuate (he : (s.display d).enable = true)
    (hz : (s.zone (s.display d).zone).priority = .evacuate) :
    resolvePlan d s = resolveEvacuate ((s.zone (s.display d).zone).item.getD 4093)
      (s.basePlan (s.display d)) s := by
  unfold resolvePlan; simp only [he, hz]; rfl

theorem resolvePlan_service (he : (s.display d).enable = true)
    (hz : (s.zone (s.display d).zone).priority = .service) (ha : s.dpm.presence = .attached) :
    resolvePlan d s = completePlan ((s.zone (s.display d).zone).item.getD 4088)
      (s.basePlan (s.display d)) s := by
  unfold resolvePlan; simp only [he, hz, State.attached, ha]; rfl

theorem resolvePlan_live (he : (s.display d).enable = true)
    (hz : (s.zone (s.display d).zone).priority ≠ .evacuate)
    (ha : (s.zone (s.display d).zone).priority = .service → s.dpm.presence ≠ .attached) :
    resolvePlan d s = completePlan (s.liveItem d (s.display d))
      { s.basePlan (s.display d) with
        fields := (s.livePlan d (s.display d).binding).2,
        banner := if (s.zone (s.display d).zone).priority = .notice ∧ s.dpm.presence = .attached
          then (s.zone (s.display d).zone).item else none } s := by
  unfold resolvePlan State.liveItem
  have serves : ¬ ((s.zone (s.display d).zone).priority = .service ∧ s.dpm.presence = .attached) :=
    fun h => ha h.1 h.2
  simp only [he, beq_eq_false_iff_ne.mpr hz, State.attached, Bool.and_eq_true, beq_iff_eq, if_neg serves]
  rfl

/-- A resolved plan has the record's timer and brightness (R11, R19). -/
theorem resolvePlan_constant : (resolvePlan d s).2.1.timer = (s.display d).timer
    ∧ (resolvePlan d s).2.1.brightness = s.brightnessOf (s.display d) := by
  have complete : ∀ i q, (completePlan i q s).2.1.timer = q.timer
      ∧ (completePlan i q s).2.1.brightness = q.brightness := fun i q => by
    unfold completePlan; split <;> exact ⟨rfl, rfl⟩
  unfold resolvePlan
  dsimp only
  split
  · exact ⟨rfl, rfl⟩
  · split
    · unfold resolveEvacuate; split <;> exact ⟨rfl, rfl⟩
    · split <;> exact complete _ _

/-! ## RECOMPOSE -/

variable {why : Ask}

/-- An urgent mark leaves what is kept for the displays (R150). -/
theorem onlyIf_markUrgent_comp {b : Bool} {e : Nat} : (onlyIf b (markUrgent d) s).comp e = s.comp e :=
  (OnlyIn.refl.onlyIf fun _ => markUrgent_only).comp (bs := [.stc]) (by decide) e

/-- What is kept for the display that is recomposed (R8, R9). -/
theorem recomposeDisplay_comp (hd : d < 512) : (recomposeDisplay why d s).comp d =
    { plan := (resolvePlan d s).2.1, wait := (resolvePlan d s).2.2, asked := none,
      stamp := if (resolvePlan d s).2.1 = (s.comp d).plan then (s.comp d).stamp
        else (s.comp d).stamp + 1 } := by
  unfold recomposeDisplay
  simp only [onlyIf_markUrgent_comp, comp_setComp hd, beq_iff_eq]

/-- A recomposition leaves what is kept for the other displays (R9). -/
theorem recomposeDisplay_comp_ne {e : Nat} (h : e ≠ d) : (recomposeDisplay why d s).comp e = s.comp e := by
  unfold recomposeDisplay
  dsimp only
  rw [onlyIf_markUrgent_comp, comp_setComp_ne h, resolvePlan_only.comp (by decide)]

/-- The mark of a display's panel on its string's urgent list (R150). -/
theorem markUrgent_stc {u : State} (hd : u.ddir = s.ddir) (hs : u.stc = s.stc) : (markUrgent d u).stc =
    if s.markTaken d then
      (s.setString (s.display d).string
        { s.string (s.display d).string with
          urgent := (s.string (s.display d).string).urgent ++ [(s.display d).address] }).stc
    else s.stc := by
  have display : u.display d = s.display d := by simp only [State.display, hd]
  have string : ∀ k, u.string k = s.string k := fun k => by simp only [State.string, hs]
  have panel : ∀ q, u.panel q = s.panel q := fun q => by simp only [State.panel, hs]
  have taken : u.markTaken d = s.markTaken d := by
    simp only [State.markTaken, State.panelOffline, display, string, panel]
  unfold markUrgent onlyIf
  rw [taken]
  split
  · simp only [alterString, display, string, State.setString, State.withStc, hs]
  · exact hs

/-- A mark is taken where the string runs, the panel is in its schedule and not OFFLINE, and the list neither holds it
nor is full (R150). -/
theorem markTaken_iff : s.markTaken d = true ↔
    (s.string (s.display d).string).state = .running
    ∧ (s.display d).address ∈ (s.string (s.display d).string).schedule
    ∧ (s.panel ((s.display d).string * 32 + (s.display d).address)).health ≠ .offline
    ∧ (s.display d).address ∉ (s.string (s.display d).string).urgent
    ∧ (s.string (s.display d).string).urgent.length < 8 := by
  simp [State.markTaken, State.panelOffline, panelIndex, and_assoc]

/-- The strings are left as they are, but for the urgent mark of R10. -/
theorem recomposeDisplay_stc : (recomposeDisplay why d s).stc =
    if marksUrgent why (s.comp d).plan (resolvePlan d s).2.1 then
      if s.markTaken d then
        (s.setString (s.display d).string
          { s.string (s.display d).string with
            urgent := (s.string (s.display d).string).urgent ++ [(s.display d).address] }).stc
      else s.stc
    else s.stc := by
  have resolved : OnlyIn [.mir, .cst] s (resolvePlan d s).1 := resolvePlan_only
  have ddir := resolved .ddir (by decide)
  have stc := resolved .stc (by decide)
  unfold recomposeDisplay onlyIf
  dsimp only
  split
  · exact markUrgent_stc ddir stc
  · exact stc

/-- A recomposition leaves the Content Store, the marks and the wait as its lookup does (R13, R124). -/
theorem recomposeDisplay_looks (hd : d < 512)
    (h : LooksUp item s (resolvePlan d s).1 (resolvePlan d s).2.2) :
    LooksUp item s (recomposeDisplay why d s) ((recomposeDisplay why d s).comp d).wait := by
  have store : OnlyIn [.cmp, .stc] (resolvePlan d s).1 (recomposeDisplay why d s) := recomposeDisplay_store
  rw [recomposeDisplay_comp hd]
  unfold LooksUp at h ⊢
  rw [show (recomposeDisplay why d s).cst = _ from store .cst (by decide),
    show (recomposeDisplay why d s).mir = _ from store .mir (by decide)]
  exact h

/-- Case 1 of R11: a disabled display shows BLANK, and nothing is looked up. -/
theorem recomposeDisplay_disabled (hd : d < 512) (he : (s.display d).enable = false) :
    let t := recomposeDisplay why d s
    (t.comp d).plan = s.basePlan (s.display d) ∧ (t.comp d).wait = .nothing ∧ t.cst = s.cst ∧ t.mir = s.mir := by
  have store : OnlyIn [.cmp, .stc] (resolvePlan d s).1 (recomposeDisplay why d s) := recomposeDisplay_store
  rw [resolvePlan_disabled he] at store
  refine ⟨?_, ?_, store .cst (by decide), store .mir (by decide)⟩
  · rw [recomposeDisplay_comp hd, resolvePlan_disabled he]
  · rw [recomposeDisplay_comp hd, resolvePlan_disabled he]

/-- Case 2 of R11: under EVACUATE the override item where it is held, else EVACUATE's (R14). -/
theorem recomposeDisplay_evacuate (hd : d < 512) (he : (s.display d).enable = true)
    (hz : (s.zone (s.display d).zone).priority = .evacuate) :
    let t := recomposeDisplay why d s
    let item := (s.zone (s.display d).zone).item.getD 4093
    LooksUp item s t (t.comp d).wait
    ∧ ∃ i, (s.isHeld item → i = item) ∧ (¬ s.isHeld item → i = 4093)
      ∧ (t.comp d).plan = { s.basePlan (s.display d) with item := i } := by
  have resolved := resolvePlan_evacuate he hz
  refine ⟨recomposeDisplay_looks hd (by rw [resolved]; exact resolveEvacuate_looks), ?_⟩
  rw [recomposeDisplay_comp hd, resolved]
  exact resolveEvacuate_plan

/-- Case 3 of R11: under SERVICE, while presence is ATTACHED, the override item (R13). -/
theorem recomposeDisplay_service (hd : d < 512) (he : (s.display d).enable = true)
    (hz : (s.zone (s.display d).zone).priority = .service) (ha : s.dpm.presence = .attached) :
    let t := recomposeDisplay why d s
    let item := (s.zone (s.display d).zone).item.getD 4088
    LooksUp item s t (t.comp d).wait
    ∧ ∃ b, (b = true ↔ ¬ s.isHeld item)
      ∧ (t.comp d).plan = { s.basePlan (s.display d) with item := item, pending := b } := by
  have resolved := resolvePlan_service he hz ha
  refine ⟨recomposeDisplay_looks hd (by rw [resolved]; exact completePlan_looks), ?_⟩
  rw [recomposeDisplay_comp hd, resolved]
  exact completePlan_plan rfl

/-- Case 4 of R11: the live plan of the record's kind, with a NOTICE's item as its banner (R12, R13). -/
theorem recomposeDisplay_live (hd : d < 512) (he : (s.display d).enable = true)
    (hz : (s.zone (s.display d).zone).priority ≠ .evacuate)
    (ha : (s.zone (s.display d).zone).priority = .service → s.dpm.presence ≠ .attached) :
    let t := recomposeDisplay why d s
    let item := s.liveItem d (s.display d)
    LooksUp item s t (t.comp d).wait
    ∧ ∃ b, (b = true ↔ ¬ s.isHeld item)
      ∧ (t.comp d).plan = { s.basePlan (s.display d) with
          item := item, pending := b,
          fields := (s.livePlan d (s.display d).binding).2,
          banner := if (s.zone (s.display d).zone).priority = .notice ∧ s.dpm.presence = .attached
            then (s.zone (s.display d).zone).item else none } := by
  have resolved := resolvePlan_live he hz ha
  refine ⟨recomposeDisplay_looks hd (by rw [resolved]; exact completePlan_looks), ?_⟩
  rw [recomposeDisplay_comp hd, resolved]
  exact completePlan_plan rfl

/-! RECOMPOSE by whether a request waits and by the display's standing (R9). -/

theorem exec_recompose_unasked {d : Fin 512} (h : (s.comp d.val).asked = none) :
    exec (.recompose d) s = .next s := by
  simp only [exec, execRecompose, h]

theorem exec_recompose_unbound {d : Fin 512} (h : (s.comp d.val).asked = some why)
    (hb : (s.display d.val).status ≠ .bound) :
    exec (.recompose d) s = .next (dropComposition d.val s) := by
  simp only [exec, execRecompose, h, State.isBound, beq_eq_false_iff_ne.mpr hb]; rfl

theorem exec_recompose_bound {d : Fin 512} (h : (s.comp d.val).asked = some why)
    (hb : (s.display d.val).status = .bound) :
    exec (.recompose d) s = .next (recomposeDisplay why d.val s) := by
  simp only [exec, execRecompose, h, State.isBound, hb]; rfl

/-- A request that adds nothing: one waits already, or the display is not BOUND (R9). -/
theorem askRecompose_idle (h : (s.comp d).asked ≠ none ∨ (s.display d).status ≠ .bound) :
    askRecompose why d s = s := by
  have idle : (s.isBound d && (s.comp d).asked.isNone) = false := by
    rcases h with h | h
    · simp [Option.isNone_eq_false_iff.mpr (Option.isSome_iff_ne_none.mpr h)]
    · simp [State.isBound, h]
  unfold askRecompose
  rw [idle]; rfl

/-- The first request for a BOUND display waits with its cause (R9). -/
theorem askRecompose_first (ha : (s.comp d).asked = none) (hb : (s.display d).status = .bound) :
    askRecompose why d s = s.setComp d { s.comp d with asked := some why } := by
  unfold askRecompose State.isBound
  rw [ha, hb]; rfl

/-- A dropped request leaves plan and stamp, and all that is kept for the other displays (R9). -/
theorem dropComposition_comp (hd : d < 512) :
    (dropComposition d s).comp d = { s.comp d with wait := .nothing, asked := none } := comp_setComp hd

theorem dropComposition_comp_ne {e : Nat} (h : e ≠ d) : (dropComposition d s).comp e = s.comp e :=
  comp_setComp_ne h

/-- The condition of R10 for an urgent mark. -/
theorem marksUrgent_iff {old new : Plan} : marksUrgent why old new = true ↔
    new ≠ old ∧ new.pending = false ∧ (why.urgent = true ∨ why.fill = true ∧ old.pending = true) := by
  simp [marksUrgent, and_assoc]

/-- A plan that is not sendable, or that stands, marks nothing (R10). -/
theorem recomposeDisplay_stc_unchanged
    (h : (resolvePlan d s).2.1.pending = true ∨ (resolvePlan d s).2.1 = (s.comp d).plan) :
    (recomposeDisplay why d s).stc = s.stc := by
  rw [recomposeDisplay_stc, if_neg]
  rw [marksUrgent_iff]
  rintro ⟨differs, sendable, _⟩
  rcases h with pending | same
  · exact absurd (sendable.symm.trans pending) (by decide)
  · exact differs same

/-- A request that is neither DRQ's or CLU's nor clears content-pending marks nothing (R10). -/
theorem recomposeDisplay_stc_plain (hu : why.urgent = false)
    (hf : why.fill = false ∨ (s.comp d).plan.pending = false) : (recomposeDisplay why d s).stc = s.stc := by
  rw [recomposeDisplay_stc, if_neg]
  rw [marksUrgent_iff]
  rintro ⟨_, _, urgent | ⟨fill, pending⟩⟩
  · exact absurd (hu.symm.trans urgent) (by decide)
  · rcases hf with h | h
    · exact absurd (h.symm.trans fill) (by decide)
    · exact absurd (h.symm.trans pending) (by decide)

/-- The brightness of a record set to AUTO, by the panel's light level (R19). -/
theorem brightnessOf_auto {r : DisplayRecord} (h : r.brightness = 0) : s.brightnessOf r =
    match (s.panel (r.string * 32 + r.address)).light with
    | some level => max 1 (level / 16)
    | none => 8 := by
  simp only [State.brightnessOf, h]; rfl

end Sys2Proof.Machine

open Sys2Proof Sys2Proof.Machine

/-- Settles O45: RECOMPOSE is one of `exec_recompose_unasked`, `exec_recompose_unbound` and `exec_recompose_bound`, and
a recomposed display's plan is given by the four cases of R11. -/
theorem recompositionBuildsThePlan : Obligations.RecompositionBuildsThePlan := by
  unfold Obligations.RecompositionBuildsThePlan
  refine ⟨fun why d s _ => ⟨askRecompose_idle, askRecompose_first⟩, fun d s => ?_⟩
  have hd : d.val < 512 := d.isLt
  cases ha : (s.comp d.val).asked with
  | none =>
    exact ⟨s, exec_recompose_unasked ha, fun _ => rfl, (fun _ h => nomatch h), (fun _ h => nomatch h)⟩
  | some why =>
    by_cases hb : (s.display d.val).status = .bound
    case neg =>
      refine ⟨_, exec_recompose_unbound ha hb, (fun h => nomatch h), fun _ _ _ => ?_,
        fun _ _ h => absurd h hb⟩
      rw [dropComposition_comp hd]
      exact ⟨dropComposition_only, rfl, rfl, rfl, fun e he => dropComposition_comp_ne he⟩
    case pos =>
      refine ⟨_, exec_recompose_bound ha hb, (fun h => nomatch h), (fun _ _ h => absurd hb h), ?_⟩
      intro why' h _ r z c p byte flag zeros floorText carText position lantern overview keypad live liveItem
        hit blank looks
      obtain rfl := Option.some.inj h
      have kept := recomposeDisplay_comp (s := s) (why := why) hd
      have plan : p = (resolvePlan d.val s).2.1 := by simp only [p, kept]
      obtain ⟨timer, bright⟩ := resolvePlan_constant (s := s) (d := d.val)
      have stc := recomposeDisplay_stc (s := s) (d := d.val) (why := why)
      rw [← plan] at timer bright stc
      have shows : live = s.livePlan d.val r.binding := by
        simp only [live]
        cases hr : r.binding with
        | carPosition car deck => exact (positionPlan_eq s car deck).symm
        | hallLantern car floor => exact (lanternPlan_eq s d.val).symm
        | lobbyOverview cars => exact (overviewPlan_eq s cars).symm
        | keypad slot floor => exact (keypadPlan_eq s (s.session slot)).symm
        | free | unused => rfl
      have item : liveItem = s.liveItem d.val r := by simp only [liveItem, shows]; rfl
      refine ⟨by rw [kept], fun e he => recomposeDisplay_comp_ne he, by rw [kept, ← plan], timer,
        ?_, ?_, ?_, ?_, ?_, ?_, ?_, ?_, ?_, recomposeDisplay_only.mono (by decide)⟩
      · intro h; rw [bright]; exact if_pos (bne_iff_ne.mpr h)
      · intro h; rw [bright]; exact brightnessOf_auto h
      · intro he
        obtain ⟨base, wait, cst, mir⟩ := recomposeDisplay_disabled (why := why) hd he
        have base : p = s.basePlan r := base
        exact ⟨by rw [base]; rfl, ⟨by rw [base]; rfl, by rw [base]; rfl⟩, by rw [base]; rfl, cst, mir, wait⟩
      · intro he hz
        obtain ⟨looked, i, held, gone, built⟩ := recomposeDisplay_evacuate (why := why) hd he hz
        have built : p = { s.basePlan r with item := i } := built
        exact ⟨looked, ⟨by rw [built]; rfl, by rw [built]; rfl⟩, by rw [built]; rfl,
          fun h => by rw [built]; exact held h, fun h => by rw [built]; exact gone h⟩
      · intro he hz hp
        obtain ⟨looked, b, pending, built⟩ := recomposeDisplay_service (why := why) hd he hz hp
        have built : p = { s.basePlan r with item := z.item.getD 4088, pending := b } := built
        exact ⟨looked, ⟨by rw [built]; rfl, by rw [built]; rfl⟩, by rw [built], by rw [built]; exact pending⟩
      · intro he hz hp
        obtain ⟨looked, b, pending, built⟩ := recomposeDisplay_live (why := why) hd he hz hp
        rw [item, shows]
        refine ⟨looked, ?_, ?_, ?_, ?_⟩
        all_goals simp only [p, built]
        · rfl
        · rfl
        · exact pending
        · rfl
      · intro h
        exact recomposeDisplay_stc_unchanged (plan ▸ h)
      · exact recomposeDisplay_stc_plain
      · intro differs sendable cause x room
        rw [stc, if_pos (marksUrgent_iff.mpr ⟨differs, sendable, cause⟩)]
        exact ⟨fun h => if_pos (markTaken_iff.mpr h), fun h => if_neg fun k => h (markTaken_iff.mp k)⟩
end

section
/-! # Marks, events and sessions

What offers and changes of sessions leave of the marks, of the events and of the sessions, said once for
each operation. -/

namespace Sys2Proof.Machine

variable {s t u : State} {n m k a d : Nat}

/-! ## Marks of the mirror -/

/-- A place of the dirty set is marked. -/
def State.marked (s : State) (i : Nat) : Prop := tget s.mir.dirty i false = true

/-- From `s` to `t` no mark is taken away, and a session whose state has changed is marked (R37, R85). -/
structure MarksKept (s t : State) : Prop where
  grow : ∀ i, s.marked i → t.marked i
  session : ∀ n, n < 128 → (t.session n).state ≠ (s.session n).state → t.marked (672 + n)

namespace MarksKept

theorem refl : MarksKept s s := ⟨fun _ h => h, fun _ _ h => absurd rfl h⟩

theorem trans (h : MarksKept s t) (k : MarksKept t u) : MarksKept s u := by
  refine ⟨fun i m => k.grow i (h.grow i m), fun n hn changed => ?_⟩
  by_cases c : (t.session n).state = (s.session n).state
  · exact k.session n hn (c ▸ changed)
  · exact k.grow _ (h.session n hn c)

/-- What keeps off the mirror and the sessions keeps the marks. -/
theorem of_only {bs : List Block} (h : OnlyIn bs s t) (hm : Block.mir ∉ bs) (hd : Block.drq ∉ bs) :
    MarksKept s t := by
  have mir : t.mir = s.mir := h .mir hm
  refine ⟨fun i m => ?_, fun n _ changed => absurd (congrArg Session.state (h.session hd n)) changed⟩
  unfold State.marked; rw [mir]; exact m

theorem onlyIf {b : Bool} {f : State → State} (h : MarksKept s t) (k : ∀ v, MarksKept v (f v)) :
    MarksKept s (onlyIf b f t) := by
  unfold Machine.onlyIf
  split
  · exact h.trans (k t)
  · exact h

theorem each {α : Type} {l : List α} {f : α → State → State} (h : ∀ x v, MarksKept v (f x v)) :
    MarksKept s (each l f s) :=
  each_keeps (MarksKept s) l f (fun x v k => k.trans (h x v)) s refl

end MarksKept

/-- A mark is set beside those that stand (R37). -/
theorem markDirty_marksKept {r : MirrorRecord} : MarksKept s (markDirty r s) := by
  refine ⟨fun i h => ?_, fun n _ changed =>
    absurd (congrArg Session.state (markDirty_only.session (by decide) n)) changed⟩
  unfold markDirty
  split
  · show tget (tset s.mir.dirty _ true) i false = true
    rw [tget_tset]
    split
    · rfl
    · exact h
  · exact h

/-- A session's mirror record is marked (R85). -/
theorem markDirty_keypad (hn : n < 128) : (markDirty (.keypad n) s).marked (672 + n) := by
  have place : mirrored (672 + n) = true := by
    unfold mirrored
    rw [decide_eq_false (show ¬ 864 ≤ 672 + n by omega)]; rfl
  unfold markDirty
  rw [if_pos (show mirrored (MirrorRecord.keypad n).index = true from place)]
  exact tget_tset_self _ _ _ _ (by simp only [MirrorRecord.index]; omega)

theorem countRefusal_marksKept {r : Nat} : MarksKept s (countRefusal r s) := by
  unfold countRefusal
  exact ((MarksKept.of_only State.setRoute_only (by decide) (by decide)).trans markDirty_marksKept).trans
    (.of_only setCause_only (by decide) (by decide))

theorem offerVia_marksKept {e : Event} : MarksKept s (offerVia k e s).1 := by
  have accept : ∀ r v, MarksKept v (acceptEvent r e v) := fun r v =>
    .of_only acceptEvent_only (by decide) (by decide)
  unfold offerVia
  dsimp only
  split
  · exact .refl
  · split
    · exact .refl
    · split
      · exact accept _ _
      · exact countRefusal_marksKept
    · split
      · exact (MarksKept.of_only State.setEntry_only (by decide) (by decide)).trans (accept _ _)
      · exact countRefusal_marksKept

theorem offerTo_marksKept {r : Option Nat} {e : Event} : MarksKept s (offerTo r e s) := by
  unfold offerTo
  split
  · exact .refl
  · split
    · exact .refl
    · split
      · exact .of_only acceptEvent_only (by decide) (by decide)
      · exact countRefusal_marksKept

theorem offerClass_marksKept {kind : EventKind} {source : Nat} {payload : List Byte} :
    MarksKept s (offerClass kind source payload s) := offerVia_marksKept

/-! ## Sessions -/

/-- A mark and a request leave the session they are made for (R66, R67). -/
theorem sessionTouched_session : (sessionTouched n s).session m = s.session m :=
  sessionTouched_only.session (by decide) m

theorem sessionTouched_marked (hn : n < 128) : (sessionTouched n s).marked (672 + n) :=
  (MarksKept.of_only askRecompose_only (by decide) (by decide)).grow _ (markDirty_keypad hn)

theorem sessionTouched_marksKept : MarksKept s (sessionTouched n s) :=
  markDirty_marksKept.trans (.of_only askRecompose_only (by decide) (by decide))

/-- The state codes are distinct (R85). -/
theorem SessionState.code_injective : Function.Injective SessionState.code := by
  have decode : ∀ z : SessionState, [SessionState.idle, .entering, .waiting, .showing, .refused, .fallback,
      .invalid, .blocked][z.code]? = some z := fun z => by cases z <;> rfl
  intro x y h
  exact Option.some.inj ((decode x).symm.trans (h ▸ decode y))

/-- A commit marks the session where one of its mirrored fields, its state among them, changes (R85). -/
theorem commitSession_marksKept {new : Session} : MarksKept s (commitSession n new s) := by
  let v := onlyIf ((s.session n).mirrorFields != new.mirrorFields) (markDirty (.keypad n)) (s.setSession n new)
  have set : ∀ i, s.marked i → (s.setSession n new).marked i := fun i h => h
  have grow : ∀ i, s.marked i → v.marked i := fun i h =>
    (MarksKept.onlyIf .refl fun w => markDirty_marksKept).grow i (set i h)
  have asked : MarksKept v (commitSession n new s) :=
    .onlyIf .refl fun w => .of_only askRecompose_only (by decide) (by decide)
  refine ⟨fun i h => asked.grow i (grow i h), fun m hm changed => ?_⟩
  by_cases hmn : m = n
  · subst hmn
    rw [commitSession_session hm] at changed
    have differs : ((s.session m).mirrorFields != new.mirrorFields) = true := by
      rw [bne_iff_ne]
      exact fun h => changed (SessionState.code_injective (congrArg Prod.fst h)).symm
    refine asked.grow _ ?_
    simp only [v, onlyIf, differs, if_true]
    exact markDirty_keypad hm
  · exact absurd (congrArg Session.state (commitSession_other hmn)) changed

theorem clearBlockCause_marksKept {c : BlockCause} : MarksKept s (clearBlockCause c n s) :=
  commitSession_marksKept

theorem setBlockCause_marksKept {c : BlockCause} : MarksKept s (setBlockCause c n s) := by
  unfold setBlockCause
  dsimp only
  split
  · exact .refl
  · split
    · exact commitSession_marksKept
    · refine .trans ?_ commitSession_marksKept
      split
      · exact offerTo_marksKept
      · exact .refl

theorem putBlockCause_marksKept {c : BlockCause} {on : Bool} : MarksKept s (putBlockCause c on n s) := by
  unfold putBlockCause
  split
  · exact setBlockCause_marksKept
  · exact clearBlockCause_marksKept

theorem rebindChange_marksKept {f : State → State} (h : MarksKept s (f s)) :
    MarksKept s (rebindChange n f s) := h.onlyIf fun _ => sessionTouched_marksKept

/-- A report of a panel's return clears nothing but the OFFLINE cause of sessions (R81). -/
theorem reportPanel_marksKept {offline : Bool} : MarksKept s (reportPanel k a offline s) := by
  unfold reportPanel reportOffline
  split
  · split
    · exact .each fun _ _ => putBlockCause_marksKept
    · exact .refl
  · exact .refl

/-- The session with a block cause cleared: a BLOCKED one with none left goes to IDLE (R81). -/
def Session.unblocked (c : BlockCause) (x : Session) : Session :=
  let y := x.setBlock c false
  if y.state = .blocked ∧ y.evac = false ∧ y.offline = false then { y with state := .idle, timer := none }
  else y

theorem Session.unblocked_unblocked (c : BlockCause) (x : Session) :
    (x.unblocked c).unblocked c = x.unblocked c := by
  unfold Session.unblocked
  cases c <;> dsimp only [Session.setBlock]
  all_goals split <;> simp

theorem clearBlockCause_session {c : BlockCause} :
    (clearBlockCause c n s).session n = (s.session n).unblocked c := by
  have eq : (clearBlockCause c n s) = commitSession n ((s.session n).unblocked c) s := by
    unfold clearBlockCause Session.unblocked
    simp only [Bool.and_eq_true, beq_iff_eq, Bool.not_eq_true', and_assoc]
  by_cases hn : n < 128
  · rw [eq, commitSession_session hn]
  · rw [session_beyond hn, session_beyond hn]
    cases c <;> rfl

theorem clearBlockCause_session_ne {c : BlockCause} (h : m ≠ n) :
    (clearBlockCause c n s).session m = s.session m := commitSession_other h

/-- The OFFLINE cause cleared of every session of a list. -/
theorem clearEach_session {c : BlockCause} {l : List Nat} :
    (each l (putBlockCause c false) s).session m =
      if m ∈ l then (s.session m).unblocked c else s.session m := by
  induction l generalizing s with
  | nil => simp
  | cons b l ih =>
    have step : putBlockCause c false b s = clearBlockCause c b s := rfl
    rw [each_cons, ih, step]
    by_cases hb : m = b
    · subst hb
      rw [clearBlockCause_session, Session.unblocked_unblocked]
      simp
    · rw [clearBlockCause_session_ne hb]
      simp [hb]

/-- The session with a block cause set: BLOCKED with nothing held, its request withdrawn if it was WAITING (R81). -/
def Session.blockedFor (c : BlockCause) (x : Session) : Session :=
  if x.blockedBy c then x
  else if x.state = .blocked then x.setBlock c true
  else ((x.withdrawnFor c.withdrawal).emptied .blocked).setBlock c true

theorem setBlockCause_session {c : BlockCause} (hn : n < 128) :
    (setBlockCause c n s).session n = (s.session n).blockedFor c := by
  unfold setBlockCause Session.blockedFor Session.withdrawnFor
  simp only [beq_iff_eq]
  split
  · rfl
  · split
    · exact commitSession_session hn
    · rw [commitSession_session hn]
      split <;> rfl

/-! ## Events -/

theorem SameEvents.refl : SameEvents s s := ⟨rfl, rfl⟩

theorem SameEvents.symm (h : SameEvents s t) : SameEvents t s := ⟨h.1.symm, h.2.symm⟩

theorem acceptEvent_events {r : Nat} {e : Event} (h : SameEvents s t) :
    SameEvents (acceptEvent r e s) (acceptEvent r e t) := by
  refine ⟨?_, h.2⟩
  simp only [acceptEvent, State.setRoute, State.route, State.withEru, h.1]

/-- What an offer by affinity does to the events and to CAUSE follows from the device record, the events and CAUSE
alone (R87, R92, R93). -/
theorem offerTo_events {r : Option Nat} {e : Event} (hd : t.dev = s.dev) (h : SameEvents s t) :
    SameEvents (offerTo r e s) (offerTo r e t) := by
  have offers : t.routesOffers = s.routesOffers := by simp only [State.routesOffers, State.formsZones, hd]
  have route : ∀ r, t.route r = s.route r := fun r => by simp only [State.route, h.1]
  have takes : ∀ r, t.routeTakes r = s.routeTakes r := fun r => by simp only [State.routeTakes, route]
  unfold offerTo
  simp only [offers, takes]
  split
  · exact h
  · split
    · exact h
    · split
      · exact acceptEvent_events h
      · exact countRefusal_events h

/-- A cancel follows from the session, the device record, the events and CAUSE alone (R79). -/
theorem cancelFor_events {r : DisplayRecord} {why : Withdrawal} (hd : t.dev = s.dev)
    (hx : (t.session n).route = (s.session n).route ∧ (t.session n).ticket = (s.session n).ticket
      ∧ (t.session n).destination = (s.session n).destination) (h : SameEvents s t) :
    SameEvents (cancelFor r n why s) (cancelFor r n why t) := by
  obtain ⟨route, ticket, destination⟩ := hx
  unfold cancelFor
  simp only [route, ticket, destination, hd]
  exact offerTo_events hd h

/-- A block cause set on a WAITING session offers its cancel and nothing else (R81). -/
theorem setBlockCause_events {c : BlockCause} (hc : (s.session n).blockedBy c = false)
    (hw : (s.session n).state = .waiting) :
    SameEvents (offerCancel n c.withdrawal s) (setBlockCause c n s) := by
  unfold setBlockCause
  simp only [hc, hw]
  exact commitSession_only.sameEvents (by decide) (by decide)

theorem clearBlockCause_events {c : BlockCause} : SameEvents s (clearBlockCause c n s) :=
  clearBlockCause_only.sameEvents (by decide) (by decide)

end Sys2Proof.Machine
end

section
/-! # Schedules and the notices to the strings

What a string that settles and a change of schedule leave, and the notices of a display take to the String
Controllers. -/

namespace Sys2Proof.Machine

variable {s t u : State} {n m k a d : Nat} {old new : DisplayRecord}

/-! ## A string's own moves: what they leave (R139 to R148) -/

/-- From `s` to `t` string `k` alone has moved, its schedule and its urgent list as they stood, and no mark is taken
away. -/
structure StringMoved (k : Nat) (s t : State) : Prop where
  others : ∀ j, j ≠ k → t.string j = s.string j
  schedule : (t.string k).schedule = (s.string k).schedule
  urgent : (t.string k).urgent = (s.string k).urgent
  marks : MarksKept s t

namespace StringMoved

theorem refl : StringMoved k s s := ⟨fun _ _ => rfl, rfl, rfl, .refl⟩

theorem trans (h : StringMoved k s t) (g : StringMoved k t u) : StringMoved k s u :=
  ⟨fun j hj => (g.others j hj).trans (h.others j hj), g.schedule.trans h.schedule,
    g.urgent.trans h.urgent, h.marks.trans g.marks⟩

theorem of_only {bs : List Block} (h : OnlyIn bs s t) (hs : Block.stc ∉ bs) (hm : MarksKept s t) :
    StringMoved k s t :=
  ⟨fun j _ => h.string hs j, by rw [h.string hs], by rw [h.string hs], hm⟩

/-- A schedule and an urgent list stand in every string's record. -/
theorem lists (h : StringMoved k s t) (j : Nat) :
    (t.string j).schedule = (s.string j).schedule ∧ (t.string j).urgent = (s.string j).urgent := by
  by_cases hj : j = k
  · subst hj; exact ⟨h.schedule, h.urgent⟩
  · rw [h.others j hj]; exact ⟨rfl, rfl⟩

end StringMoved

/-- The record of string `k` replaced by one with its lists. -/
theorem setString_moved {x : PanelString} (hx : x.schedule = (s.string k).schedule)
    (hu : x.urgent = (s.string k).urgent) : StringMoved k s (s.setString k x) := by
  refine ⟨fun j hj => string_setString_ne hj, ?_, ?_, .of_only State.setString_only (by decide) (by decide)⟩
  all_goals
    by_cases hk : k < 16
    · rw [string_setString hk]; assumption
    · rw [string_beyond hk, string_beyond hk]

theorem alterString_moved {f : PanelString → PanelString} (hs : ∀ x, (f x).schedule = x.schedule)
    (hu : ∀ x, (f x).urgent = x.urgent) : StringMoved k s (alterString k f s) :=
  setString_moved (hs _) (hu _)

theorem markDirty_moved {r : MirrorRecord} : StringMoved k s (markDirty r s) :=
  .of_only markDirty_only (by decide) markDirty_marksKept

theorem enterString_moved {new : StringState} : StringMoved k s (enterString k new s) := by
  unfold enterString
  refine .trans (.trans ?_ (.of_only offerClass_only (by decide) offerClass_marksKept)) markDirty_moved
  exact setString_moved rfl rfl

theorem enterParking_moved : StringMoved k s (enterParking k s) := by
  unfold enterParking beginBroadcast
  refine .trans (.trans (alterString_moved ?_ ?_) enterString_moved) (alterString_moved ?_ ?_)
  all_goals exact fun _ => rfl

theorem closeSweep_moved : StringMoved k s (closeSweep k s) := by
  unfold closeSweep
  refine .trans ?_ markDirty_moved
  exact alterString_moved (fun _ => rfl) fun _ => rfl

theorem startSweep_moved : StringMoved k s (startSweep k s) := by
  unfold startSweep
  dsimp only
  split
  · refine .trans ?_ closeSweep_moved
    exact setString_moved rfl rfl
  · exact setString_moved rfl rfl

theorem endSweep_moved : StringMoved k s (endSweep k s) := by
  unfold endSweep onlyIf
  dsimp only
  split
  · exact closeSweep_moved.trans startSweep_moved
  · exact closeSweep_moved

theorem completeEnumeration_moved : StringMoved k s (completeEnumeration k s) := by
  unfold completeEnumeration
  refine .trans (.trans ?_ enterString_moved) startSweep_moved
  exact alterString_moved (fun _ => rfl) fun _ => rfl

theorem skipSlots_moved : StringMoved k s (skipSlots k s) := by
  unfold skipSlots
  dsimp only
  split
  · split
    · exact setString_moved rfl rfl
    · exact .refl
  · exact .refl

theorem endIfDone_moved : StringMoved k s (endIfDone k s) := by
  unfold endIfDone
  split
  · split
    · exact .refl
    · exact endSweep_moved
  · exact .refl

/-- A string's settling is one of four: nothing more than slots passed over and a sweep ended, or from DRAINING or
ENUMERATING an entry to PARKING, or from ENUMERATING the end of the pass (R141, R143). -/
theorem settleString_cases (k : Nat) (s : State) :
    let v := endIfDone k (skipSlots k s)
    let x := (v.string k).state
    settleString k s = v
    ∨ (x = .draining ∨ x = .enumerating) ∧ settleString k s = enterParking k v
    ∨ x = .enumerating ∧ settleString k s = completeEnumeration k v := by
  intro v x
  unfold settleString
  dsimp only
  split
  · split
    · next h =>
      split
      · exact .inr (.inl ⟨.inl h, rfl⟩)
      · exact .inl rfl
    · next h =>
      split
      · exact .inr (.inl ⟨.inr h, rfl⟩)
      · split
        · exact .inr (.inr ⟨h, rfl⟩)
        · exact .inl rfl
    all_goals exact .inl rfl
  · exact .inl rfl

theorem settleString_moved : StringMoved k s (settleString k s) := by
  have done : StringMoved k s (endIfDone k (skipSlots k s)) := skipSlots_moved.trans endIfDone_moved
  obtain h | ⟨_, h⟩ | ⟨_, h⟩ := settleString_cases k s <;> rw [h]
  · exact done
  · exact done.trans enterParking_moved
  · exact done.trans completeEnumeration_moved

/-- A state that a string can leave of itself at a free line (R141, R143). -/
def StringState.leaves (x : StringState) : Prop := x = .draining ∨ x = .enumerating

/-- A string that moves of itself leaves DRAINING or ENUMERATING for a state that it does not leave so. -/
theorem settleString_state : ((settleString k s).string k).state = (s.string k).state
    ∨ (s.string k).state.leaves ∧ ¬ ((settleString k s).string k).state.leaves := by
  by_cases hk : k < 16
  · obtain ⟨same, _⟩ := endIfDone_keeps (k := k) (s := s) hk
    obtain h | ⟨before, h⟩ | ⟨before, h⟩ := settleString_cases k s <;> rw [h]
    · exact .inl same
    · rw [enterParking_string hk]
      exact .inr ⟨same ▸ before, fun h => by rcases h with h | h <;> exact nomatch h⟩
    · have running : ((completeEnumeration k (endIfDone k (skipSlots k s))).string k).state = .running := by
        unfold completeEnumeration
        rw [(startSweep_keeps hk).1, enterString_string hk]
      rw [running]
      exact .inr ⟨.inr (same ▸ before), fun h => by rcases h with h | h <;> exact nomatch h⟩
  · rw [string_beyond hk, string_beyond hk]
    exact .inl rfl

/-- A string number that names no string settles nothing. -/
theorem settleString_beyond (hk : ¬ k < 16) : settleString k s = s := by
  have skip : skipSlots k s = s := by unfold skipSlots; rw [string_beyond hk]; rfl
  have done : endIfDone k s = s := by unfold endIfDone; rw [string_beyond hk]; rfl
  unfold settleString
  rw [skip, done]
  dsimp only
  rw [string_beyond hk]
  rfl

/-- A string that settles without a change of state offers nothing (R139). -/
theorem settleString_quiet (h : ((settleString k s).string k).state = (s.string k).state) :
    SameEvents s (settleString k s) := by
  by_cases hk : k < 16
  · have told := settleString_told (s := s) hk
    unfold stringTold at told
    rwa [if_pos h] at told
  · rw [settleString_beyond hk]
    exact .refl

/-- The state of one string over the settling of another, or of itself. -/
theorem settleString_state_of (k : Nat) {j : Nat} : ((settleString k s).string j).state = (s.string j).state
    ∨ (s.string j).state.leaves ∧ ¬ ((settleString k s).string j).state.leaves := by
  by_cases h : j = k
  · subst h; exact settleString_state
  · rw [settleString_moved.others j h]; exact .inl rfl

/-- Two strings, or one string twice, that settle and then stand in the states they had offer nothing: a state that
was left of itself does not come back. -/
theorem settleTwice_quiet {b c : Bool} {j : Nat}
    (h : ∀ i, ((onlyIf c (settleString k) (onlyIf b (settleString j) s)).string i).state
      = (s.string i).state) :
    SameEvents s (onlyIf c (settleString k) (onlyIf b (settleString j) s)) := by
  have second : ∀ v i, ((onlyIf c (settleString k) v).string i).state = (v.string i).state
      ∨ (v.string i).state.leaves ∧ ¬ ((onlyIf c (settleString k) v).string i).state.leaves := fun v i => by
    cases c
    · exact .inl rfl
    · exact settleString_state_of k
  have first : ∀ i, ((onlyIf b (settleString j) s).string i).state = (s.string i).state
      ∨ (s.string i).state.leaves ∧ ¬ ((onlyIf b (settleString j) s).string i).state.leaves := fun i => by
    cases b
    · exact .inl rfl
    · exact settleString_state_of j
  have between : ∀ i, ((onlyIf b (settleString j) s).string i).state = (s.string i).state := fun i => by
    rcases first i with same | ⟨left, stays⟩
    · exact same
    · rcases second (onlyIf b (settleString j) s) i with same | ⟨left', _⟩
      · exact same.symm.trans (h i)
      · exact absurd left' stays
  refine SameEvents.trans (t := onlyIf b (settleString j) s) ?_ ?_
  · cases b
    · exact .refl
    · exact settleString_quiet (between j)
  · cases c
    · exact .refl
    · exact settleString_quiet ((h k).trans (between k).symm)

/-! ## Changes of a schedule (R146, R154) -/

/-- A field that a change of a string record keeps stands in every string's record. -/
theorem alterString_field {β : Type} (π : PanelString → β) {f : PanelString → PanelString}
    (hf : ∀ x, π (f x) = π x) (j : Nat) : π ((alterString k f s).string j) = π (s.string j) := by
  by_cases h : j = k
  · subst h
    by_cases hj : j < 16
    · rw [string_alterString hj, hf]
    · rw [string_beyond hj, string_beyond hj]
  · exact congrArg π (string_setString_ne h)

theorem markPanel_marksKept {p : Nat} {x : Panel} : MarksKept s (markPanel p x s) :=
  .onlyIf .refl fun _ => markDirty_marksKept

/-- A panel set UNSEEN changes of the strings its own panel record alone (R154). -/
theorem setUnseen_stc : (setUnseen k a s).stc = (s.setPanel (panelIndex k a) Panel.initial).stc := by
  have h : OnlyIn sessionBlocks (s.setPanel (panelIndex k a) Panel.initial) (setUnseen k a s) :=
    markPanel_only.after (by decide) (OnlyIn.refl.onlyIf fun _ => reportPanel_only)
  exact h .stc (by decide)

theorem setUnseen_string (j : Nat) : (setUnseen k a s).string j = s.string j := by
  simp only [State.string, setUnseen_stc]; rfl

theorem setUnseen_panel (p : Nat) :
    (setUnseen k a s).panel p = (s.setPanel (panelIndex k a) Panel.initial).panel p := by
  simp only [State.panel, setUnseen_stc]

theorem setUnseen_marksKept : MarksKept s (setUnseen k a s) :=
  .trans (.onlyIf (.of_only State.setPanel_only (by decide) (by decide)) fun _ => reportPanel_marksKept)
    markPanel_marksKept

/-- A panel set UNSEEN offers nothing (R154). -/
theorem setUnseen_events : SameEvents s (setUnseen k a s) := by
  have report : SameEvents s (onlyIf ((s.panel (panelIndex k a)).health == .offline)
      (reportPanel k a false) (s.setPanel (panelIndex k a) Panel.initial)) := by
    unfold onlyIf
    split
    · exact reportOnline_events (s := s.setPanel (panelIndex k a) Panel.initial)
    · exact .refl
  exact report.trans (markPanel_only.sameEvents (by decide) (by decide))

/-- The return of a panel that no display but `d` holds clears the OFFLINE cause of `d`'s sessions alone (R81). -/
theorem reportOnline_session (hd : ∀ e, s.holder k a = some e → e = d) :
    (reportPanel k a false s).session m = s.session m
    ∨ (s.session m).bound = true ∧ (s.session m).display = d
      ∧ (reportPanel k a false s).session m = (s.session m).unblocked .offline := by
  unfold reportPanel
  cases h : s.holder k a with
  | none => exact .inl rfl
  | some e =>
    obtain rfl := hd e h
    dsimp only
    unfold reportOffline
    split
    · rw [clearEach_session]
      split
      · next hm =>
        obtain ⟨_, member⟩ := (mem_twhere _ _ _ Session.initial).mp hm
        simp only [Bool.and_eq_true, beq_iff_eq] at member
        exact .inr ⟨member.1, member.2, rfl⟩
      · exact .inl rfl
    · exact .inl rfl

theorem setUnseen_session (hd : ∀ e, s.holder k a = some e → e = d) :
    (setUnseen k a s).session m = s.session m
    ∨ (s.session m).bound = true ∧ (s.session m).display = d
      ∧ (setUnseen k a s).session m = (s.session m).unblocked .offline := by
  unfold setUnseen onlyIf
  dsimp only
  rw [markPanel_only.session (by decide)]
  split
  · exact reportOnline_session (s := s.setPanel (panelIndex k a) Panel.initial) hd
  · exact .inl rfl

theorem enterSchedule_marksKept : MarksKept s (enterSchedule k a s) :=
  .trans (.of_only alterString_only (by decide) (by decide)) setUnseen_marksKept

theorem enterSchedule_events : SameEvents s (enterSchedule k a s) :=
  alterString_events.trans setUnseen_events

/-- An address that has entered a schedule, its panel UNSEEN (R146). -/
theorem enterSchedule_entered (hk : k < 16) (ha : a < 32) :
    a ∈ ((enterSchedule k a s).string k).schedule
    ∧ (enterSchedule k a s).panel (panelIndex k a) = Panel.initial := by
  unfold enterSchedule
  constructor
  · rw [setUnseen_string, string_alterString hk]
    simp
  · rw [setUnseen_panel, panel_setPanel (by simp only [panelIndex]; omega)]

/-- An address that enters a schedule leaves the string's state and urgent list, and puts no other address into it. -/
theorem enterSchedule_lists (j : Nat) : ((enterSchedule k a s).string j).state = (s.string j).state
    ∧ ((enterSchedule k a s).string j).urgent = (s.string j).urgent
    ∧ ∀ b, ¬ (j = k ∧ b = a) → b ∈ ((enterSchedule k a s).string j).schedule → b ∈ (s.string j).schedule := by
  unfold enterSchedule
  rw [setUnseen_string]
  refine ⟨alterString_field (·.state) ?_ j, alterString_field (·.urgent) ?_ j, fun b hb => ?_⟩
  · exact fun _ => rfl
  · exact fun _ => rfl
  by_cases hj : j = k
  · subst hj
    have hb : b ≠ a := fun h => hb ⟨rfl, h⟩
    by_cases hk : j < 16
    · rw [string_alterString hk]
      simp only [List.mem_append, List.mem_filter, List.mem_singleton]
      rintro ((h | h) | h)
      · exact h.1
      · exact absurd h hb
      · exact h.1
    · rw [string_beyond hk, string_beyond hk]; exact id
  · rw [show (alterString k _ s).string j = s.string j from string_setString_ne hj]; exact id

theorem enterSchedule_panel {p : Nat} (h : p ≠ panelIndex k a) :
    (enterSchedule k a s).panel p = s.panel p := by
  unfold enterSchedule
  rw [setUnseen_panel, panel_setPanel_ne h]
  rfl

/-- An address that leaves a schedule leaves the urgent list with it (R146). -/
theorem leaveSchedule_left (hk : k < 16) : a ∉ ((leaveSchedule k a s).string k).schedule
    ∧ a ∉ ((leaveSchedule k a s).string k).urgent := by
  unfold leaveSchedule
  rw [string_alterString hk]
  simp

theorem leaveSchedule_state (j : Nat) : ((leaveSchedule k a s).string j).state = (s.string j).state := by
  refine alterString_field (·.state) ?_ j
  exact fun _ => rfl

/-! ## The notices of a display take to the String Controllers (R5) -/

/-- The changes of schedule of a display take, before the strings concerned settle. -/
def rescheduled (old new : DisplayRecord) (s : State) : State :=
  let t := match old.panel with
    | some (k, a) => leaveSchedule k a s
    | none => s
  match new.panel with
  | some (k, a) => enterSchedule k a t
  | none => t

theorem panelNotices_same (h : samePanel old new = true) : panelNotices old new s = s := if_pos h

theorem panelNotices_changed (h : samePanel old new = false) : panelNotices old new s =
    onlyIf new.panel.isSome (settleString new.string)
      (onlyIf old.panel.isSome (settleString old.string) (rescheduled old new s)) := by
  unfold panelNotices
  rw [h]; rfl

theorem rescheduled_marksKept : MarksKept s (rescheduled old new s) := by
  unfold rescheduled
  dsimp only
  have left : MarksKept s (match old.panel with | some (k, a) => leaveSchedule k a s | none => s) := by
    split
    · exact .of_only leaveSchedule_only (by decide) (by decide)
    · exact .refl
  split
  · exact left.trans enterSchedule_marksKept
  · exact left

theorem rescheduled_events : SameEvents s (rescheduled old new s) := by
  unfold rescheduled
  dsimp only
  have left : SameEvents s (match old.panel with | some (k, a) => leaveSchedule k a s | none => s) := by
    split
    · exact alterString_events
    · exact .refl
  split
  · exact left.trans enterSchedule_events
  · exact left

theorem rescheduled_state (j : Nat) : ((rescheduled old new s).string j).state = (s.string j).state := by
  unfold rescheduled
  dsimp only
  cases new.panel with
  | none =>
    cases old.panel with
    | none => rfl
    | some q => exact leaveSchedule_state j
  | some p =>
    refine (enterSchedule_lists j).1.trans ?_
    cases old.panel with
    | none => rfl
    | some q => exact leaveSchedule_state j

/-- No display but `d` holds the panel of `new` (R3). -/
def PanelFree (d : Nat) (new : DisplayRecord) (s : State) : Prop :=
  ∀ k a e, new.panel = some (k, a) → s.holder k a = some e → e = d

/-- What a change of schedules, with its report of a panel's return, does to a session. -/
theorem rescheduled_session (free : PanelFree d new s) :
    (rescheduled old new s).session m = s.session m
    ∨ (s.session m).bound = true ∧ (s.session m).display = d
      ∧ (rescheduled old new s).session m = (s.session m).unblocked .offline := by
  unfold rescheduled
  dsimp only
  cases hn : new.panel with
  | none =>
    cases old.panel with
    | none => exact .inl rfl
    | some q => exact .inl rfl
  | some p =>
    obtain ⟨k, a⟩ := p
    dsimp only
    unfold enterSchedule
    cases old.panel with
    | none => exact setUnseen_session (s := alterString k _ s) fun e he => free k a e hn he
    | some q =>
      exact setUnseen_session (s := alterString k _ (leaveSchedule q.1 q.2 s)) fun e he => free k a e hn he

theorem rescheduled_entered (hn : new.panel = some (k, a)) (hk : k < 16) (ha : a < 32) :
    a ∈ ((rescheduled old new s).string k).schedule
    ∧ (rescheduled old new s).panel (panelIndex k a) = Panel.initial := by
  unfold rescheduled
  rw [hn]
  exact enterSchedule_entered hk ha

theorem rescheduled_left (ho : old.panel = some (k, a)) (hk : k < 16) (ha : a < 32)
    (hn : new.panel ≠ some (k, a)) (range : ∀ j b, new.panel = some (j, b) → b < 32) :
    a ∉ ((rescheduled old new s).string k).schedule
    ∧ a ∉ ((rescheduled old new s).string k).urgent
    ∧ (rescheduled old new s).panel (panelIndex k a) = s.panel (panelIndex k a) := by
  obtain ⟨schedule, urgent⟩ := leaveSchedule_left (s := s) (a := a) hk
  unfold rescheduled
  rw [ho]
  dsimp only
  cases hp : new.panel with
  | none => exact ⟨schedule, urgent, rfl⟩
  | some p =>
    obtain ⟨j, b⟩ := p
    have hb := range j b hp
    have other : ¬ (k = j ∧ a = b) := fun h => hn (by rw [hp, h.1, h.2])
    obtain ⟨_, lists, enters⟩ := enterSchedule_lists (s := leaveSchedule k a s) (k := j) (a := b) k
    refine ⟨fun h => schedule (enters a other h), by dsimp only; rw [lists]; exact urgent, ?_⟩
    dsimp only
    rw [enterSchedule_panel (by simp only [panelIndex]; omega)]
    rfl

/-! The strings concerned settle, and the notices as a whole. -/

theorem settled_marksKept {b : Bool} : MarksKept s (onlyIf b (settleString k) s) :=
  .onlyIf .refl fun _ => settleString_moved.marks

theorem settled_only {b : Bool} : OnlyIn (.stc :: offerBlocks) s (onlyIf b (settleString k) s) :=
  OnlyIn.refl.onlyIf fun _ => settleString_only

theorem settled_lists {b : Bool} (j : Nat) :
    ((onlyIf b (settleString k) s).string j).schedule = (s.string j).schedule
    ∧ ((onlyIf b (settleString k) s).string j).urgent = (s.string j).urgent := by
  cases b
  · exact ⟨rfl, rfl⟩
  · exact settleString_moved.lists j

theorem settled_panel {b : Bool} (p : Nat) : (onlyIf b (settleString k) s).panel p = s.panel p := by
  cases b
  · rfl
  · show tget (settleString k s).stc.panels p _ = _
    rw [settleString_panels]; rfl

theorem panelNotices_marksKept : MarksKept s (panelNotices old new s) := by
  cases h : samePanel old new
  · rw [panelNotices_changed h]
    exact (rescheduled_marksKept.trans settled_marksKept).trans settled_marksKept
  · rw [panelNotices_same h]; exact .refl

/-- The notices offer nothing where every string stands in the state it had. -/
theorem panelNotices_events (h : ∀ j, ((panelNotices old new s).string j).state = (s.string j).state) :
    SameEvents s (panelNotices old new s) := by
  cases hp : samePanel old new
  · rw [panelNotices_changed hp] at h ⊢
    exact rescheduled_events.trans
      (settleTwice_quiet fun i => (h i).trans (rescheduled_state i).symm)
  · rw [panelNotices_same hp]; exact .refl

theorem panelNotices_session (free : PanelFree d new s) :
    (panelNotices old new s).session m = s.session m
    ∨ samePanel old new = false ∧ (s.session m).bound = true ∧ (s.session m).display = d
      ∧ (panelNotices old new s).session m = (s.session m).unblocked .offline := by
  cases hp : samePanel old new
  · rw [panelNotices_changed hp, settled_only.session (by decide), settled_only.session (by decide)]
    exact (rescheduled_session free).imp id fun h => ⟨rfl, h⟩
  · rw [panelNotices_same hp]; exact .inl rfl

theorem panelNotices_entered (hp : samePanel old new = false) (hn : new.panel = some (k, a)) (hk : k < 16)
    (ha : a < 32) : a ∈ ((panelNotices old new s).string k).schedule
    ∧ (panelNotices old new s).panel (panelIndex k a) = Panel.initial := by
  rw [panelNotices_changed hp, (settled_lists k).1, (settled_lists k).1, settled_panel, settled_panel]
  exact rescheduled_entered hn hk ha

theorem panelNotices_left (ho : old.panel = some (k, a)) (hk : k < 16) (ha : a < 32)
    (hn : new.panel ≠ some (k, a)) (range : ∀ j b, new.panel = some (j, b) → b < 32) :
    a ∉ ((panelNotices old new s).string k).schedule
    ∧ a ∉ ((panelNotices old new s).string k).urgent
    ∧ (panelNotices old new s).panel (panelIndex k a) = s.panel (panelIndex k a) := by
  have hp : samePanel old new = false := by
    have : (old.panel == new.panel) = false := beq_eq_false_iff_ne.mpr fun h => hn (h ▸ ho)
    simp [samePanel, this]
  rw [panelNotices_changed hp, (settled_lists k).1, (settled_lists k).1, (settled_lists k).2,
    (settled_lists k).2, settled_panel, settled_panel]
  exact rescheduled_left ho hk ha hn range

end Sys2Proof.Machine
end

section
/-! # Display takes

The checks of a display take, its notices to the Destination Request Unit, its stages, and the statement
about it. -/

namespace Sys2Proof.Machine

variable {s t u : State} {n m k a d f : Nat} {old new r : DisplayRecord}

/-! ## The record of a cell, and the checks of R3 -/

theorem inRange_some {lo hi x y : Nat} (h : inRange lo hi x = some y) : lo ≤ y ∧ y ≤ hi := by
  unfold inRange at h
  split at h
  · obtain rfl := Option.some.inj h; assumption
  · exact nomatch h

/-- The keypad slot of a binding read from a cell is one of 128 (R2). -/
theorem bindingFields_slot {kind x y : Nat} {places : List Byte}
    (h : bindingFields kind x y places = some (.keypad n f)) : n < 128 := by
  unfold bindingFields at h
  split at h
  case h_4 =>
    simp only [Option.bind_eq_bind, Option.bind_eq_some_iff, Option.some.injEq, Binding.keypad.injEq] at h
    obtain ⟨slot, hs, _, _, rfl, _⟩ := h
    have := (inRange_some hs).2
    omega
  all_goals simp [Option.bind_eq_some_iff] at h

/-- A BOUND record read from a cell names a string, an address and, of kind KEYPAD, a slot that exist (R2). -/
theorem displayFields_inRange {body : List Byte} (h : displayFields body = some r) (hb : r.status = .bound) :
    r.string < 16 ∧ r.address < 32 ∧ ∀ n f, r.binding = .keypad n f → n < 128 := by
  unfold displayFields at h
  split at h
  · obtain rfl := Option.some.inj h; exact nomatch hb
  · simp only [Option.bind_eq_bind, Option.bind_eq_some_iff, Option.some.injEq] at h
    obtain ⟨binding, hbind, string, hstring, address, haddress, _, _, _, _, _, _, _, _, rfl⟩ := h
    have := (inRange_some hstring).2
    have := (inRange_some haddress).2
    refine ⟨by dsimp only; omega, by dsimp only; omega, fun n f he => ?_⟩
    have he : binding = .keypad n f := he
    exact bindingFields_slot (he ▸ hbind)

theorem slot_eq_some : r.slot = some (n, f) ↔ r.status = .bound ∧ r.binding = .keypad n f := by
  unfold DisplayRecord.slot
  cases r.status <;> cases r.binding <;> simp

theorem panel_eq_some : r.panel = some (k, a) ↔ r.status = .bound ∧ r.string = k ∧ r.address = a := by
  unfold DisplayRecord.panel
  cases r.status <;> simp

/-- Another BOUND record holds the panel of `r` (R3). -/
theorem panelTaken_iff (hb : r.status = .bound) : s.panelTaken d r = true ↔
    ∃ e, e < 512 ∧ e ≠ d ∧ (s.display e).status = .bound
      ∧ (s.display e).string = r.string ∧ (s.display e).address = r.address := by
  have panel : r.panel = some (r.string, r.address) := panel_eq_some.mpr ⟨hb, rfl, rfl⟩
  unfold State.panelTaken
  simp only [panel, List.any_eq_true, mem_twhere _ _ _ DisplayRecord.initial, beq_iff_eq, bne_iff_ne,
    panel_eq_some]
  exact ⟨fun ⟨e, ⟨he, holds⟩, hd⟩ => ⟨e, he, hd, holds⟩, fun ⟨e, he, hd, holds⟩ => ⟨e, ⟨he, holds⟩, hd⟩⟩

/-- Another BOUND record holds the keypad slot of `r` (R3). -/
theorem slotTaken_iff (hb : r.status = .bound) : s.slotTaken d r = true ↔
    ∃ e n f g, e < 512 ∧ e ≠ d ∧ (s.display e).status = .bound
      ∧ (s.display e).binding = .keypad n f ∧ r.binding = .keypad n g := by
  unfold State.slotTaken
  cases hs : r.slot with
  | none =>
    refine iff_of_false Bool.false_ne_true fun ⟨_, n, _, g, _, _, _, _, h⟩ => ?_
    rw [slot_eq_some.mpr ⟨hb, h⟩] at hs
    exact nomatch hs
  | some p =>
    obtain ⟨slot, g⟩ := p
    have binding := (slot_eq_some.mp hs).2
    simp only [List.any_eq_true, mem_twhere _ _ _ DisplayRecord.initial, beq_iff_eq, bne_iff_ne,
      Option.map_eq_some_iff, Prod.exists, exists_and_right, exists_eq_right, slot_eq_some, binding,
      Binding.keypad.injEq]
    constructor
    · rintro ⟨e, ⟨he, f, holds, kind⟩, hd⟩
      exact ⟨e, slot, f, g, he, hd, holds, kind, rfl, rfl⟩
    · rintro ⟨e, n, f, _, he, hd, holds, kind, rfl, _⟩
      exact ⟨e, ⟨he, f, holds, kind⟩, hd⟩

/-- The cars a record names are all configured (R3). -/
theorem carsConfigured_iff : r.binding.cars.all s.configured = true ↔
    ∀ c ∈ r.binding.cars, s.hdr.carMask.getLsbD c = true := List.all_eq_true

theorem takeDisplay_refused {body : List Byte} {why : Reason} (h : displayFields body = some r)
    (hr : s.displayRefusal d r = some why) : takeDisplay d body s = (s, .rejected, why) := by
  simp only [takeDisplay, h, hr]

theorem takeDisplay_accepted {body : List Byte} (h : displayFields body = some r)
    (hr : s.displayRefusal d r = none) :
    takeDisplay d body s = (acceptDisplay d r s, .accepted, .unset) := by
  simp only [takeDisplay, h, hr]

/-- The only display that holds a panel that no other record holds is the one taken (R3). -/
theorem panelFree_of_untaken {w : State} (hd : w.ddir = (s.setDisplay d r).ddir)
    (h : r.status = .bound → s.panelTaken d r = false) : PanelFree d r w := by
  intro k a e hp he
  obtain ⟨hb, rfl, rfl⟩ := panel_eq_some.mp hp
  have member := List.mem_of_mem_head? (Option.mem_def.mpr he)
  obtain ⟨hlt, holds⟩ := (mem_twhere _ _ _ DisplayRecord.initial).mp member
  refine Classical.byContradiction fun hne => ?_
  have record : tget w.ddir e DisplayRecord.initial = s.display e := by
    rw [hd]; exact display_setDisplay_ne hne
  rw [record] at holds
  simp only [Bool.and_eq_true, beq_iff_eq, and_assoc] at holds
  have taken := (panelTaken_iff (s := s) (d := d) hb).mpr ⟨e, hlt, hne, holds⟩
  rw [h hb] at taken
  exact nomatch taken

/-! ## The notices to the Destination Request Unit (R5, R66) -/

/-- The withdrawal of a WAITING session retires its ticket (R79). -/
theorem withdrawnFor_waiting {why : Withdrawal} {x : Session} (h : x.state = .waiting) :
    x.retire .withdrawn why = x.withdrawnFor why := (if_pos h).symm

/-- A session unbound: IDLE with nothing held but its retirement (R66; log 32). -/
def Session.unboundFrom (x : Session) : Session :=
  { (x.withdrawnFor .unbound).emptied .idle with bound := false, evac := false, offline := false }

/-- The state after the cancel of an unbinding, if the session was WAITING (R79). -/
def unbindCancel (old : DisplayRecord) (n : Nat) (s : State) : State :=
  if (s.session n).state = .waiting then cancelFor old n .unbound s else s

/-- An unbinding is a cancel, a session replaced, a mark and perhaps a request (R66, R79). -/
theorem unbindSession_steps : ∃ v, OnlyIn [.drq] (unbindCancel old n s) v
    ∧ (n < 128 → v.session n = (s.session n).unboundFrom) ∧ (∀ m, m ≠ n → v.session m = s.session m)
    ∧ OnlyIn [.cmp] (markDirty (.keypad n) v) (unbindSession old n s) := by
  unfold unbindSession unbindCancel Session.unboundFrom Session.withdrawnFor
  simp only [beq_iff_eq]
  by_cases hw : (s.session n).state = .waiting
  · simp only [if_pos hw]
    refine ⟨_, ?_, fun hn => ?_, fun m hm => ?_, OnlyIn.refl.onlyIf fun _ => askRecompose_only⟩
    · exact State.setSession_only.after (by decide) State.setSession_only
    · rw [session_setSession hn]
      unfold withdrawFor
      rw [session_setSession hn]
      rfl
    · rw [session_setSession_ne hm]
      unfold withdrawFor
      rw [session_setSession_ne hm, cancelFor_only.session (by decide)]
  · simp only [if_neg hw]
    refine ⟨_, State.setSession_only, fun hn => ?_, fun m hm => session_setSession_ne hm,
      OnlyIn.refl.onlyIf fun _ => askRecompose_only⟩
    rw [session_setSession hn]
    rfl

theorem unbindSession_session (hn : n < 128) :
    (unbindSession old n s).session n = (s.session n).unboundFrom := by
  obtain ⟨v, _, session, _, after⟩ := unbindSession_steps (old := old) (n := n) (s := s)
  rw [after.session (by decide), markDirty_only.session (by decide), session hn]

theorem unbindSession_session_ne (h : m ≠ n) :
    (unbindSession old n s).session m = s.session m := by
  obtain ⟨v, _, _, others, after⟩ := unbindSession_steps (old := old) (n := n) (s := s)
  rw [after.session (by decide), markDirty_only.session (by decide), others m h]

/-- An unbinding offers its cancel and nothing else (R79). -/
theorem unbindSession_events :
    SameEvents (unbindCancel old n s) (unbindSession old n s) := by
  obtain ⟨v, only, _, _, after⟩ := unbindSession_steps (old := old) (n := n) (s := s)
  exact ((only.sameEvents (by decide) (by decide)).trans
    (markDirty_only.sameEvents (by decide) (by decide))).trans (after.sameEvents (by decide) (by decide))

theorem unbindSession_marked (hn : n < 128) : (unbindSession old n s).marked (672 + n) := by
  obtain ⟨v, _, _, _, after⟩ := unbindSession_steps (old := old) (n := n) (s := s)
  exact (MarksKept.of_only after (by decide) (by decide)).grow _ (markDirty_keypad hn)

theorem unbindCancel_marksKept : MarksKept s (unbindCancel old n s) := by
  unfold unbindCancel
  split
  · exact offerTo_marksKept
  · exact .refl

theorem unbindSession_marksKept (hn : n < 128) : MarksKept s (unbindSession old n s) := by
  obtain ⟨v, only, _, _, after⟩ := unbindSession_steps (old := old) (n := n) (s := s)
  have dirty : v.mir = (unbindCancel old n s).mir := only .mir (by decide)
  refine ⟨fun i h => ?_, fun m hm changed => ?_⟩
  · refine (MarksKept.of_only after (by decide) (by decide)).grow _ (markDirty_marksKept.grow _ ?_)
    unfold State.marked
    rw [dirty]
    exact unbindCancel_marksKept.grow i h
  · by_cases hmn : m = n
    · subst hmn; exact unbindSession_marked hm
    · exact absurd (congrArg Session.state (unbindSession_session_ne hmn)) changed

/-- The notice of an unbinding, by whether the slot stays the record's own. -/
theorem unbindNotice_kept (h : ∀ p, old.slot = some p → new.slot = old.slot) :
    unbindNotice old new s = s := by
  unfold unbindNotice
  cases ho : old.slot with
  | none => rfl
  | some p =>
    have same : (some p == new.slot) = true := beq_iff_eq.mpr (by rw [h p ho, ho])
    simp only [same, if_true]

theorem unbindNotice_left (ho : old.slot = some (n, f)) (h : new.slot ≠ some (n, f)) :
    unbindNotice old new s = unbindSession old n s := by
  have other : (some (n, f) == new.slot) = false := beq_eq_false_iff_ne.mpr h.symm
  unfold unbindNotice
  simp only [ho, other]
  rfl

/-- The session of a slot newly bound: nothing but its retirement outlives the binding (R66). -/
theorem bindSession_session (hn : n < 128) {offline : Bool} : (bindSession n d offline s).session n =
    let x := s.session n
    let raised : Bool := (s.zone (s.display d).zone).priority == .evacuate
    { Session.initial with
      bound := true, display := d, retiredTicket := x.retiredTicket, retiredRoute := x.retiredRoute,
      retiredKind := x.retiredKind, withdrawal := x.withdrawal, evac := raised, offline := offline,
      state := if raised || offline then .blocked else .idle } := by
  unfold bindSession State.evacuated
  dsimp only
  rw [sessionTouched_session, session_setSession hn]
  split <;> rfl

theorem bindSession_session_ne (h : m ≠ n) {offline : Bool} :
    (bindSession n d offline s).session m = s.session m := by
  unfold bindSession
  dsimp only
  rw [sessionTouched_session, session_setSession_ne h]

theorem bindSession_marked (hn : n < 128) {offline : Bool} :
    (bindSession n d offline s).marked (672 + n) := sessionTouched_marked hn

theorem bindSession_marksKept (hn : n < 128) {offline : Bool} : MarksKept s (bindSession n d offline s) := by
  refine ⟨fun i h => sessionTouched_marksKept.grow i h, fun m hm changed => ?_⟩
  by_cases hmn : m = n
  · subst hmn; exact bindSession_marked hm
  · exact absurd (congrArg Session.state (bindSession_session_ne hmn)) changed

/-- A session kept, once its panel and then its zone or flag have changed (R66). -/
theorem rebindChange_session {g : State → State} : (rebindChange n g s).session m = (g s).session m := by
  unfold rebindChange onlyIf
  dsimp only
  split
  · exact sessionTouched_session
  · rfl

theorem rebindChange_events {g : State → State} : SameEvents (g s) (rebindChange n g s) :=
  (OnlyIn.refl.onlyIf fun _ => sessionTouched_only).sameEvents (bs := [.mir, .cmp]) (by decide) (by decide)

/-! A binding, and a session kept. -/

theorem bindNotice_none (hn : new.slot = none) : bindNotice d old new s = s := by
  unfold bindNotice; rw [hn]

theorem bindNotice_bound (hn : new.slot = some (n, f)) (ho : old.slot ≠ some (n, f)) :
    bindNotice d old new s =
      bindSession n d (samePanel old new && s.panelOffline new.string new.address) s := by
  have other : (old.slot == some (n, f)) = false := beq_eq_false_iff_ne.mpr ho
  unfold bindNotice
  simp only [hn, other]
  rfl

/-- The notice of a changed panel to a session kept (R66). -/
def keptOverPanel (n : Nat) (old new : DisplayRecord) (s : State) : State :=
  onlyIf (!samePanel old new) (sessionPanelChanged n) s

theorem bindNotice_kept (hn : new.slot = some (n, f)) (ho : old.slot = some (n, f)) :
    bindNotice d old new s =
      if old.zone ≠ new.zone ∨ old.assist ≠ new.assist then
        sessionZoneChanged n new.zone (keptOverPanel n old new s)
      else keptOverPanel n old new s := by
  unfold bindNotice keptOverPanel onlyIf
  simp only [hn, ho, beq_self_eq_true, if_true, Bool.or_eq_true, bne_iff_ne]

theorem sessionPanelChanged_session :
    (sessionPanelChanged n s).session n = (s.session n).unblocked .offline :=
  rebindChange_session.trans clearBlockCause_session

theorem sessionPanelChanged_session_ne (h : m ≠ n) :
    (sessionPanelChanged n s).session m = s.session m :=
  rebindChange_session.trans (clearBlockCause_session_ne h)

theorem keptOverPanel_only : OnlyIn [.mir, .cmp, .drq] s (keptOverPanel n old new s) :=
  OnlyIn.refl.onlyIf fun _ => sessionPanelChanged_only

theorem keptOverPanel_session_ne (h : m ≠ n) : (keptOverPanel n old new s).session m = s.session m := by
  unfold keptOverPanel onlyIf
  split
  · exact sessionPanelChanged_session_ne h
  · rfl

theorem keptOverPanel_marksKept : MarksKept s (keptOverPanel n old new s) :=
  .onlyIf .refl fun _ => rebindChange_marksKept clearBlockCause_marksKept

/-- The session kept after the notices of its panel: its OFFLINE cause cleared where the panel has changed, once or
twice being the same (R66, R81). -/
theorem keptOverPanel_session (free : PanelFree d new s) :
    (keptOverPanel n old new (panelNotices old new s)).session n =
      if samePanel old new then s.session n else (s.session n).unblocked .offline := by
  unfold keptOverPanel
  cases hp : samePanel old new
  · show (sessionPanelChanged n _).session n = (s.session n).unblocked .offline
    rw [sessionPanelChanged_session]
    rcases panelNotices_session (old := old) (m := n) free with h | ⟨_, _, _, h⟩
    · rw [h]
    · rw [h, Session.unblocked_unblocked]
  · show (panelNotices old new s).session n = s.session n
    rw [panelNotices_same hp]

theorem sessionZoneChanged_session_ne {z : Nat} (h : m ≠ n) :
    (sessionZoneChanged n z s).session m = s.session m := by
  unfold sessionZoneChanged
  rw [rebindChange_session]
  unfold putBlockCause setBlockCause
  split
  · dsimp only
    split
    · rfl
    · split
      · exact commitSession_other h
      · rw [commitSession_other h]
        split
        · exact cancelFor_only.session (by decide) m
        · rfl
  · exact clearBlockCause_session_ne h

theorem sessionZoneChanged_raised {z : Nat} (hn : n < 128) (h : (s.zone z).priority = .evacuate) :
    (sessionZoneChanged n z s).session n = (s.session n).blockedFor .evac := by
  unfold sessionZoneChanged State.evacuated putBlockCause
  rw [rebindChange_session, h]
  exact setBlockCause_session hn

theorem sessionZoneChanged_lowered {z : Nat} (h : (s.zone z).priority ≠ .evacuate) :
    (sessionZoneChanged n z s).session n = (s.session n).unblocked .evac := by
  unfold sessionZoneChanged State.evacuated putBlockCause
  rw [rebindChange_session, beq_eq_false_iff_ne.mpr h]
  exact clearBlockCause_session

theorem sessionZoneChanged_lowered_events {z : Nat} (h : (s.zone z).priority ≠ .evacuate) :
    SameEvents s (sessionZoneChanged n z s) := by
  unfold sessionZoneChanged State.evacuated putBlockCause
  rw [beq_eq_false_iff_ne.mpr h]
  exact clearBlockCause_events.trans rebindChange_events

theorem sessionZoneChanged_raised_events {z : Nat} (h : (s.zone z).priority = .evacuate)
    (he : (s.session n).evac = false) (hw : (s.session n).state = .waiting) :
    SameEvents (offerCancel n .evac s) (sessionZoneChanged n z s) := by
  unfold sessionZoneChanged State.evacuated putBlockCause
  rw [h]
  exact (setBlockCause_events (c := .evac) he hw).trans rebindChange_events

theorem sessionZoneChanged_marksKept {z : Nat} : MarksKept s (sessionZoneChanged n z s) :=
  rebindChange_marksKept putBlockCause_marksKept

/-! The session with a cause cleared or set, written out. -/

theorem Session.unblocked_offline (x : Session) : x.unblocked .offline =
    if x.state = .blocked ∧ x.evac = false then { x with offline := false, state := .idle, timer := none }
    else { x with offline := false } := by
  simp [Session.unblocked, Session.setBlock]

theorem Session.unblocked_evac (x : Session) : x.unblocked .evac =
    if x.state = .blocked ∧ x.offline = false then { x with evac := false, state := .idle, timer := none }
    else { x with evac := false } := by
  simp [Session.unblocked, Session.setBlock]

theorem Session.blockedFor_evac_set {x : Session} (h : x.evac = true) : x.blockedFor .evac = x := by
  simp [Session.blockedFor, Session.blockedBy, h]

theorem Session.blockedFor_evac {x : Session} (h : x.evac = false) : x.blockedFor .evac =
    if x.state = .blocked then { x with evac := true }
    else { (x.withdrawnFor .evac).emptied .blocked with evac := true } := by
  simp [Session.blockedFor, Session.blockedBy, h, Session.setBlock, BlockCause.withdrawal]

/-- What a cleared cause leaves of a session: all that a cancel and a retirement read (R79). -/
theorem Session.unblocked_fields (c : BlockCause) (x : Session) :
    (x.unblocked c).route = x.route ∧ (x.unblocked c).ticket = x.ticket
    ∧ (x.unblocked c).destination = x.destination ∧ (x.unblocked c).display = x.display
    ∧ (x.unblocked c).retiredTicket = x.retiredTicket ∧ (x.unblocked c).retiredRoute = x.retiredRoute
    ∧ (x.unblocked c).retiredKind = x.retiredKind ∧ (x.unblocked c).withdrawal = x.withdrawal := by
  unfold Session.unblocked
  cases c <;> dsimp only [Session.setBlock] <;> split <;> exact ⟨rfl, rfl, rfl, rfl, rfl, rfl, rfl, rfl⟩

/-! ## An accepted take, stage by stage (R5; the order of log 46) -/

/-- The hub once the record has been replaced and the old slot unbound. -/
def takeUnbound (d : Nat) (r : DisplayRecord) (s : State) : State :=
  unbindNotice (s.display d) r (s.setDisplay d r)

/-- The hub once the String Controllers have had their notices. -/
def takeScheduled (d : Nat) (r : DisplayRecord) (s : State) : State :=
  panelNotices (s.display d) r (takeUnbound d r s)

/-- The hub once the new slot is bound, or the session kept has had its notices. -/
def takeBound (d : Nat) (r : DisplayRecord) (s : State) : State :=
  bindNotice d (s.display d) r (takeScheduled d r s)

theorem takeUnbound_only : OnlyIn sessionBlocks (s.setDisplay d r) (takeUnbound d r s) := unbindNotice_only

theorem takeScheduled_only : OnlyIn stringBlocks (s.setDisplay d r) (takeScheduled d r s) :=
  panelNotices_only.after (by decide) (takeUnbound_only.mono (by decide))

theorem takeBound_only : OnlyIn sessionBlocks (takeScheduled d r s) (takeBound d r s) := bindNotice_only

/-- CLU and CMP come last (log 46). -/
theorem acceptDisplay_last : OnlyIn [.clu, .cmp] (takeBound d r s) (acceptDisplay d r s) := by
  show OnlyIn _ _ (if r.status == .bound then askRecompose .plain d
    (lanternNotice d (s.display d) r (takeBound d r s))
    else dropComposition d (lanternNotice d (s.display d) r (takeBound d r s)))
  have lantern : OnlyIn [.clu, .cmp] (takeBound d r s) (lanternNotice d (s.display d) r (takeBound d r s)) :=
    lanternNotice_only.mono (by decide)
  split
  · exact askRecompose_only.after (by decide) lantern
  · exact dropComposition_only.after (by decide) lantern

theorem acceptDisplay_marksKept : MarksKept (takeBound d r s) (acceptDisplay d r s) :=
  .of_only acceptDisplay_last (by decide) (by decide)

theorem acceptDisplay_session : (acceptDisplay d r s).session m = (takeBound d r s).session m :=
  acceptDisplay_last.session (by decide) m

theorem acceptDisplay_events : SameEvents (takeBound d r s) (acceptDisplay d r s) :=
  acceptDisplay_last.sameEvents (by decide) (by decide)

theorem acceptDisplay_string (k : Nat) : (acceptDisplay d r s).string k = (takeScheduled d r s).string k :=
  (acceptDisplay_last.string (by decide) k).trans (takeBound_only.string (by decide) k)

theorem acceptDisplay_panel (p : Nat) : (acceptDisplay d r s).panel p = (takeScheduled d r s).panel p :=
  (acceptDisplay_last.panel (by decide) p).trans (takeBound_only.panel (by decide) p)

theorem takeUnbound_string (k : Nat) : (takeUnbound d r s).string k = s.string k :=
  takeUnbound_only.string (by decide) k

theorem takeUnbound_panel (p : Nat) : (takeUnbound d r s).panel p = s.panel p :=
  takeUnbound_only.panel (by decide) p

/-! The record, its lantern and its composition. -/

theorem acceptDisplay_ddir : (acceptDisplay d r s).ddir = (s.setDisplay d r).ddir :=
  (acceptDisplay_last .ddir (by decide)).trans
    ((takeBound_only .ddir (by decide)).trans (takeScheduled_only .ddir (by decide)))

theorem acceptDisplay_display (hd : d < 512) : (acceptDisplay d r s).display d = r := by
  simp only [State.display, acceptDisplay_ddir]
  exact display_setDisplay hd

theorem acceptDisplay_display_ne {e : Nat} (h : e ≠ d) : (acceptDisplay d r s).display e = s.display e := by
  simp only [State.display, acceptDisplay_ddir]
  exact display_setDisplay_ne h

/-- The lantern records after a take (R5, R55). -/
theorem acceptDisplay_lantern {e : Nat} : (acceptDisplay d r s).lantern e =
    (lanternNotice d (s.display d) r (takeBound d r s)).lantern e := by
  show State.lantern (if r.status == .bound then askRecompose .plain d _ else dropComposition d _) e = _
  split
  · exact askRecompose_only.lantern (by decide) e
  · exact dropComposition_only.lantern (by decide) e

theorem takeBound_lantern (e : Nat) : (takeBound d r s).lantern e = s.lantern e :=
  (takeBound_only.lantern (by decide) e).trans (takeScheduled_only.lantern (by decide) e)

theorem acceptDisplay_lantern_ne {e : Nat} (h : e ≠ d) : (acceptDisplay d r s).lantern e = s.lantern e := by
  rw [acceptDisplay_lantern]
  unfold lanternNotice
  split
  · exact takeBound_lantern e
  · rw [lantern_setLantern_ne h, takeBound_lantern]

theorem acceptDisplay_lantern_self (hd : d < 512) : (acceptDisplay d r s).lantern d =
    if (s.display d).lantern = r.lantern then s.lantern d
    else r.lantern.map fun b => Lantern.initial b.1 b.2 := by
  rw [acceptDisplay_lantern]
  unfold lanternNotice
  simp only [beq_iff_eq]
  split
  · exact takeBound_lantern d
  · exact lantern_setLantern hd

/-- A BOUND record awaits recomposition (R5, R9). -/
theorem acceptDisplay_asked (hd : d < 512) (hb : r.status = .bound) :
    ((acceptDisplay d r s).comp d).asked ≠ none := by
  have eq : acceptDisplay d r s =
      askRecompose .plain d (lanternNotice d (s.display d) r (takeBound d r s)) := if_pos (beq_iff_eq.mpr hb)
  have bound : (lanternNotice d (s.display d) r (takeBound d r s)).isBound d = true := by
    have record : (acceptDisplay d r s).display d = r := acceptDisplay_display hd
    rw [eq, askRecompose_only.display (by decide)] at record
    simp only [State.isBound, record, hb, beq_self_eq_true]
  rw [eq, askRecompose_asked d, bound]
  simp [Composition.askedFor]

/-! The strings. -/

theorem acceptDisplay_entered (hb : r.status = .bound) (hp : samePanel (s.display d) r = false)
    (hk : r.string < 16) (ha : r.address < 32) :
    r.address ∈ ((acceptDisplay d r s).string r.string).schedule
    ∧ (acceptDisplay d r s).panel (panelIndex r.string r.address) = Panel.initial := by
  rw [acceptDisplay_string, acceptDisplay_panel]
  exact panelNotices_entered hp (panel_eq_some.mpr ⟨hb, rfl, rfl⟩) hk ha

theorem acceptDisplay_left (ho : (s.display d).panel = some (k, a)) (hk : k < 16) (ha : a < 32)
    (hn : r.panel ≠ some (k, a)) (range : r.status = .bound → r.address < 32) :
    a ∉ ((acceptDisplay d r s).string k).schedule ∧ a ∉ ((acceptDisplay d r s).string k).urgent
    ∧ (acceptDisplay d r s).panel (panelIndex k a) = s.panel (panelIndex k a) := by
  rw [acceptDisplay_string, acceptDisplay_panel, ← takeUnbound_panel (d := d) (r := r) (s := s)]
  refine panelNotices_left ho hk ha hn fun j b h => ?_
  obtain ⟨hb, _, rfl⟩ := panel_eq_some.mp h
  exact range hb

/-- Every string stands after the take in the state it had. -/
def StatesStand (s t : State) : Prop := ∀ k, k < 16 → (t.string k).state = (s.string k).state

/-- Where every string stands in its state, the String Controllers' notices offer nothing (R139). -/
theorem takeScheduled_quiet (h : StatesStand s (acceptDisplay d r s)) :
    SameEvents (takeUnbound d r s) (takeScheduled d r s) := by
  refine panelNotices_events fun j => ?_
  by_cases hj : j < 16
  · rw [takeUnbound_string, ← h j hj, acceptDisplay_string]; rfl
  · rw [string_beyond hj, string_beyond hj]

/-! The sessions. -/

theorem takeUnbound_free (h : r.status = .bound → s.panelTaken d r = false) :
    PanelFree d r (takeUnbound d r s) :=
  panelFree_of_untaken (takeUnbound_only .ddir (by decide)) h

/-- A session of another slot than the old record's stands over the unbinding. -/
theorem takeUnbound_session (h : ∀ f, (s.display d).slot ≠ some (m, f)) :
    (takeUnbound d r s).session m = s.session m := by
  unfold takeUnbound unbindNotice
  cases hs : (s.display d).slot with
  | none => rfl
  | some p =>
    have other : m ≠ p.1 := fun e => h p.2 (e ▸ hs)
    dsimp only
    split
    · rfl
    · exact unbindSession_session_ne other

/-- A session that is neither of the old slot, nor of the new, nor of the display stands. -/
theorem acceptDisplay_session_other (free : PanelFree d r (takeUnbound d r s))
    (ho : ∀ f, (s.display d).slot ≠ some (m, f))
    (hn : ∀ f, r.slot ≠ some (m, f)) (hx : (s.session m).display ≠ d) :
    (acceptDisplay d r s).session m = s.session m := by
  have unbound : (takeUnbound d r s).session m = s.session m := takeUnbound_session ho
  have scheduled : (takeScheduled d r s).session m = s.session m := by
    rcases panelNotices_session (old := s.display d) (m := m) free with h | ⟨_, _, h, _⟩
    · exact h.trans unbound
    · exact absurd (unbound ▸ h) hx
  rw [acceptDisplay_session, ← scheduled]
  unfold takeBound
  cases hs : r.slot with
  | none => rw [bindNotice_none hs]
  | some p =>
    obtain ⟨j, g⟩ := p
    have other : m ≠ j := fun h => hn g (h ▸ hs)
    by_cases kept : (s.display d).slot = some (j, g)
    · rw [bindNotice_kept hs kept]
      split
      · rw [sessionZoneChanged_session_ne other, keptOverPanel_session_ne other]
      · exact keptOverPanel_session_ne other
    · rw [bindNotice_bound hs kept, bindSession_session_ne other]

/-- What an unbinding offers: DEST_CANCEL with reason UNBOUND to the route of a WAITING session, with the zone and
origin floor of the old record (R79, R83; log 14). -/
theorem unbindCancel_events {old : DisplayRecord} (ho : old.slot = some (n, f)) : SameEvents
    (if (s.session n).state = .waiting then
      offerTo (s.session n).route
        { kind := .destCancel, cls := old.zone, source := n, ticket := (s.session n).ticket,
          payload := [2, BitVec.ofNat 8 f, BitVec.ofNat 8 ((s.session n).destination.getD 0)],
          time := s.dev.time } s
    else s) (unbindCancel old n (s.setDisplay d r)) := by
  have origin : old.origin = f := by
    unfold DisplayRecord.origin; rw [(slot_eq_some.mp ho).2]
  unfold unbindCancel cancelFor
  rw [origin, show (s.setDisplay d r).session n = s.session n from rfl]
  split
  · exact offerTo_events rfl .refl
  · exact .refl

/-- The slot that the record leaves: its mark, its cancel, and its session with nothing held but its retirement
(R5, R66, R79). -/
theorem acceptDisplay_unbound (hn : n < 128) (ho : (s.display d).slot = some (n, f))
    (h : r.slot ≠ some (n, f)) (range : ∀ j g, r.slot = some (j, g) → j < 128)
    (free : PanelFree d r (takeUnbound d r s)) :
    (acceptDisplay d r s).marked (672 + n)
    ∧ (StatesStand s (acceptDisplay d r s) →
        SameEvents (unbindCancel (s.display d) n (s.setDisplay d r)) (acceptDisplay d r s))
    ∧ ((∀ g, r.slot ≠ some (n, g)) → (acceptDisplay d r s).session n = (s.session n).unboundFrom) := by
  have unbound : takeUnbound d r s = unbindSession (s.display d) n (s.setDisplay d r) :=
    unbindNotice_left ho h
  have bound : OnlyIn [.mir, .cmp, .drq] (takeScheduled d r s) (takeBound d r s)
      ∧ MarksKept (takeScheduled d r s) (takeBound d r s)
      ∧ ((∀ g, r.slot ≠ some (n, g)) →
          (takeBound d r s).session n = (takeScheduled d r s).session n) := by
    unfold takeBound
    cases hs : r.slot with
    | none => rw [bindNotice_none hs]; exact ⟨.refl, .refl, fun _ => rfl⟩
    | some p =>
      obtain ⟨j, g⟩ := p
      have other : (s.display d).slot ≠ some (j, g) := fun k => h (hs.trans (k.symm.trans ho))
      rw [bindNotice_bound hs other]
      exact ⟨bindSession_only, bindSession_marksKept (range j g hs), fun k =>
        bindSession_session_ne fun e => k g (by rw [e])⟩
  obtain ⟨only, marks, session⟩ := bound
  refine ⟨?_, fun steady => ?_, fun gone => ?_⟩
  · refine acceptDisplay_marksKept.grow _ (marks.grow _ (panelNotices_marksKept.grow _ ?_))
    rw [unbound]
    exact unbindSession_marked hn
  · have quiet := takeScheduled_quiet steady
    rw [unbound] at quiet
    exact ((unbindSession_events.trans quiet).trans (only.sameEvents (by decide) (by decide))).trans
      acceptDisplay_events
  · have left : (takeUnbound d r s).session n = (s.session n).unboundFrom := by
      rw [unbound, unbindSession_session hn]; rfl
    rw [acceptDisplay_session, session gone, ← left]
    rcases panelNotices_session (old := s.display d) (m := n) free with h | ⟨_, h, _, _⟩
    · exact h
    · rw [left] at h; exact nomatch h

/-- The slot that the record takes: its mark, and its session as a binding leaves it (R66, R81). -/
theorem acceptDisplay_bound (hd : d < 512) (hn : n < 128) (h : r.slot = some (n, f))
    (ho : (s.display d).slot ≠ some (n, f)) (free : PanelFree d r (takeUnbound d r s)) :
    let x := if (s.display d).slot.map Prod.fst = some n then (s.session n).withdrawnFor .unbound
      else s.session n
    let raised : Bool := (s.zone r.zone).priority == .evacuate
    let offline : Bool := samePanel (s.display d) r
      && (s.panel (panelIndex r.string r.address)).health == .offline
    (acceptDisplay d r s).marked (672 + n)
    ∧ (acceptDisplay d r s).session n = { Session.initial with
        bound := true, display := d, retiredTicket := x.retiredTicket, retiredRoute := x.retiredRoute,
        retiredKind := x.retiredKind, withdrawal := x.withdrawal, evac := raised, offline := offline,
        state := if raised || offline then .blocked else .idle } := by
  intro x raised offline
  have bound : takeBound d r s = bindSession n d
      (samePanel (s.display d) r && (takeScheduled d r s).panelOffline r.string r.address)
      (takeScheduled d r s) := bindNotice_bound h ho
  have unbound : ((takeUnbound d r s).session n).retiredTicket = x.retiredTicket
      ∧ ((takeUnbound d r s).session n).retiredRoute = x.retiredRoute
      ∧ ((takeUnbound d r s).session n).retiredKind = x.retiredKind
      ∧ ((takeUnbound d r s).session n).withdrawal = x.withdrawal := by
    by_cases own : (s.display d).slot.map Prod.fst = some n
    · obtain ⟨⟨j, g⟩, hs, rfl⟩ := Option.map_eq_some_iff.mp own
      have left : takeUnbound d r s = unbindSession (s.display d) j (s.setDisplay d r) :=
        unbindNotice_left hs fun e => ho (hs.trans (e.symm.trans h))
      rw [left, unbindSession_session hn]
      simp only [x, if_pos own]
      exact ⟨rfl, rfl, rfl, rfl⟩
    · have stands : (takeUnbound d r s).session n = s.session n :=
        takeUnbound_session fun g e => own (by rw [e]; rfl)
      rw [stands]
      simp only [x, if_neg own]
      exact ⟨trivial, trivial, trivial, trivial⟩
  have kept : ((takeScheduled d r s).session n).retiredTicket = x.retiredTicket
      ∧ ((takeScheduled d r s).session n).retiredRoute = x.retiredRoute
      ∧ ((takeScheduled d r s).session n).retiredKind = x.retiredKind
      ∧ ((takeScheduled d r s).session n).withdrawal = x.withdrawal := by
    rcases panelNotices_session (old := s.display d) (m := n) free with e | ⟨_, _, _, e⟩
    · unfold takeScheduled; rw [e]; exact unbound
    · unfold takeScheduled; rw [e]
      obtain ⟨_, _, _, _, ticket, route, kind, why⟩ :=
        Session.unblocked_fields .offline ((takeUnbound d r s).session n)
      rw [ticket, route, kind, why]; exact unbound
  obtain ⟨ticket, route, kind, why⟩ := kept
  have record : (takeScheduled d r s).display d = r :=
    (takeScheduled_only.display (by decide) d).trans (display_setDisplay hd)
  have zone : (takeScheduled d r s).zone r.zone = s.zone r.zone := takeScheduled_only.zone (by decide) _
  have panel : (samePanel (s.display d) r && (takeScheduled d r s).panelOffline r.string r.address)
      = offline := by
    cases hp : samePanel (s.display d) r
    · simp [offline, hp]
    · have same : takeScheduled d r s = takeUnbound d r s := panelNotices_same hp
      simp only [offline, hp, same, State.panelOffline, takeUnbound_panel]
  refine ⟨?_, ?_⟩
  · refine acceptDisplay_marksKept.grow _ ?_
    rw [bound]; exact bindSession_marked hn
  · rw [acceptDisplay_session, bound, bindSession_session hn]
    simp only [panel, record, zone, ticket, route, kind, why]
    rfl

/-! A slot that the record keeps. -/

/-- A session kept, as the change of its panel leaves it (R66). -/
def Session.keptOver (same : Bool) (x : Session) : Session := if same then x else x.unblocked .offline

/-- A change of panel leaves of a session kept all that a cancel reads. -/
theorem Session.keptOver_fields (same : Bool) (x : Session) : (x.keptOver same).route = x.route
    ∧ (x.keptOver same).ticket = x.ticket ∧ (x.keptOver same).destination = x.destination
    ∧ (x.keptOver same).display = x.display := by
  cases same
  · obtain ⟨route, ticket, destination, display, _⟩ := Session.unblocked_fields .offline x
    exact ⟨route, ticket, destination, display⟩
  · exact ⟨rfl, rfl, rfl, rfl⟩

/-- The hub once the session kept in slot `n` has had the notice of its panel. -/
def takeKept (n d : Nat) (r : DisplayRecord) (s : State) : State :=
  keptOverPanel n (s.display d) r (takeScheduled d r s)

theorem takeKept_only : OnlyIn [.mir, .cmp, .drq] (takeScheduled d r s) (takeKept n d r s) :=
  keptOverPanel_only

theorem takeKept_zone (z : Nat) : (takeKept n d r s).zone z = s.zone z :=
  (takeKept_only.zone (by decide) z).trans (takeScheduled_only.zone (by decide) z)

section Kept

variable (h : r.slot = some (n, f)) (ho : (s.display d).slot = some (n, f))
include h ho

theorem takeUnbound_kept : takeUnbound d r s = s.setDisplay d r :=
  unbindNotice_kept fun _ _ => h.trans ho.symm

theorem takeKept_session (free : PanelFree d r (takeUnbound d r s)) :
    (takeKept n d r s).session n = (s.session n).keptOver (samePanel (s.display d) r) := by
  have kept := keptOverPanel_session (n := n) (old := s.display d) free
  rw [show (takeUnbound d r s).session n = s.session n by rw [takeUnbound_kept h ho]; rfl] at kept
  exact kept

theorem takeKept_events (steady : StatesStand s (acceptDisplay d r s)) :
    SameEvents s (takeKept n d r s) := by
  have scheduled := takeScheduled_quiet steady
  rw [takeUnbound_kept h ho] at scheduled
  exact SameEvents.trans (t := s.setDisplay d r) ⟨rfl, rfl⟩
    (scheduled.trans (takeKept_only.sameEvents (by decide) (by decide)))

theorem takeBound_kept : takeBound d r s =
    if (s.display d).zone ≠ r.zone ∨ (s.display d).assist ≠ r.assist then
      sessionZoneChanged n r.zone (takeKept n d r s)
    else takeKept n d r s := bindNotice_kept h ho

/-- A change of a kept session's state is marked, whichever notice makes it (R85). -/
theorem acceptDisplay_kept_marksKept : MarksKept s (acceptDisplay d r s) := by
  have scheduled : MarksKept s (takeScheduled d r s) := by
    unfold takeScheduled
    rw [takeUnbound_kept h ho]
    exact (MarksKept.of_only State.setDisplay_only (by decide) (by decide)).trans panelNotices_marksKept
  have bound : MarksKept (takeKept n d r s) (takeBound d r s) := by
    rw [takeBound_kept h ho]
    split
    · exact sessionZoneChanged_marksKept
    · exact .refl
  exact ((scheduled.trans keptOverPanel_marksKept).trans bound).trans acceptDisplay_marksKept

/-- The cancel of a session kept is the one it would offer as soon as the record is replaced (R79, R81). -/
theorem takeKept_cancel {why : Withdrawal} (free : PanelFree d r (takeUnbound d r s))
    (steady : StatesStand s (acceptDisplay d r s)) :
    SameEvents (offerCancel n why (s.setDisplay d r)) (offerCancel n why (takeKept n d r s)) := by
  obtain ⟨route, ticket, destination, display⟩ :=
    Session.keptOver_fields (samePanel (s.display d) r) (s.session n)
  rw [← takeKept_session h ho free] at route ticket destination display
  have directory : ∀ e, (takeKept n d r s).display e = (s.setDisplay d r).display e := fun e =>
    (takeKept_only.display (by decide) e).trans (takeScheduled_only.display (by decide) e)
  have dev : (takeKept n d r s).dev = (s.setDisplay d r).dev :=
    (takeKept_only .dev (by decide)).trans (takeScheduled_only .dev (by decide))
  have record : (takeKept n d r s).recordOf ((takeKept n d r s).session n) =
      (s.setDisplay d r).recordOf ((s.setDisplay d r).session n) := by
    unfold State.recordOf
    rw [display, directory]; rfl
  unfold offerCancel
  rw [record]
  exact cancelFor_events dev ⟨route, ticket, destination⟩
    (SameEvents.trans (t := s) ⟨rfl, rfl⟩ (takeKept_events h ho steady))

/-- The slot that the record keeps: the session over the change of panel, then over the change of zone or flag, each
change of its state marked, and no event but the cancel of a WAITING one (R66, R79, R81). -/
theorem acceptDisplay_kept (hn : n < 128) (free : PanelFree d r (takeUnbound d r s)) :
    let y := (s.session n).keptOver (samePanel (s.display d) r)
    let moved : Prop := (s.display d).zone ≠ r.zone ∨ (s.display d).assist ≠ r.assist
    let raised : Prop := (s.zone r.zone).priority = .evacuate
    let t := acceptDisplay d r s
    (¬ moved → t.session n = y ∧ (StatesStand s t → SameEvents s t))
    ∧ (moved → ¬ raised → t.session n = y.unblocked .evac ∧ (StatesStand s t → SameEvents s t))
    ∧ (moved → raised → t.session n = y.blockedFor .evac)
    ∧ (moved → raised → y.evac = false → y.state = .waiting → StatesStand s t →
        SameEvents (offerCancel n .evac (s.setDisplay d r)) t)
    ∧ ((t.session n).state ≠ (s.session n).state → t.marked (672 + n)) := by
  intro y moved raised t
  have session : (takeKept n d r s).session n = y := takeKept_session h ho free
  have last : SameEvents (takeBound d r s) t := acceptDisplay_events
  have still : ¬ moved → takeBound d r s = takeKept n d r s := fun hm =>
    (takeBound_kept h ho).trans (if_neg hm)
  have zoned : moved → takeBound d r s = sessionZoneChanged n r.zone (takeKept n d r s) := fun hm =>
    (takeBound_kept h ho).trans (if_pos hm)
  refine ⟨fun hm => ?_, fun hm hr => ?_, fun hm hr => ?_, fun hm hr he hw steady => ?_,
    (acceptDisplay_kept_marksKept h ho).session n hn⟩
  · rw [still hm] at last
    exact ⟨by rw [acceptDisplay_session, still hm, session],
      fun steady => (takeKept_events h ho steady).trans last⟩
  · have hr : ((takeKept n d r s).zone r.zone).priority ≠ .evacuate := by rw [takeKept_zone]; exact hr
    rw [zoned hm] at last
    exact ⟨by rw [acceptDisplay_session, zoned hm, sessionZoneChanged_lowered hr, session],
      fun steady => ((takeKept_events h ho steady).trans (sessionZoneChanged_lowered_events hr)).trans last⟩
  · have hr : ((takeKept n d r s).zone r.zone).priority = .evacuate := by rw [takeKept_zone]; exact hr
    rw [acceptDisplay_session, zoned hm, sessionZoneChanged_raised hn hr, session]
  · have hr : ((takeKept n d r s).zone r.zone).priority = .evacuate := by rw [takeKept_zone]; exact hr
    rw [zoned hm] at last
    rw [← session] at he hw
    exact ((takeKept_cancel h ho free steady).trans (sessionZoneChanged_raised_events hr he hw)).trans last

end Kept

/-- The checks of R3 in their order. -/
theorem displayRefusal_car (hb : r.status = .bound)
    (hc : ¬ ∀ c ∈ r.binding.cars, s.hdr.carMask.getLsbD c = true) : s.displayRefusal d r = some .car := by
  have cars : r.binding.cars.all s.configured = false := Bool.eq_false_iff.mpr fun h => hc (carsConfigured_iff.mp h)
  simp only [State.displayRefusal, hb, cars]; rfl

theorem displayRefusal_dupPanel (hb : r.status = .bound)
    (hc : ∀ c ∈ r.binding.cars, s.hdr.carMask.getLsbD c = true) (hp : s.panelTaken d r = true) :
    s.displayRefusal d r = some .dupPanel := by
  simp only [State.displayRefusal, hb, carsConfigured_iff.mpr hc, hp]; rfl

theorem displayRefusal_dupSlot (hb : r.status = .bound)
    (hc : ∀ c ∈ r.binding.cars, s.hdr.carMask.getLsbD c = true) (hp : s.panelTaken d r = false)
    (hs : s.slotTaken d r = true) : s.displayRefusal d r = some .dupSlot := by
  simp only [State.displayRefusal, hb, carsConfigured_iff.mpr hc, hp, hs]; rfl

theorem displayRefusal_none (h : r.status = .bound → (∀ c ∈ r.binding.cars, s.hdr.carMask.getLsbD c = true)
    ∧ s.panelTaken d r = false ∧ s.slotTaken d r = false) : s.displayRefusal d r = none := by
  unfold State.displayRefusal
  by_cases hb : r.status = .bound
  · obtain ⟨hc, hp, hs⟩ := h hb
    simp only [hb, carsConfigured_iff.mpr hc, hp, hs]; rfl
  · rw [bne_iff_ne.mpr hb]; rfl

end Sys2Proof.Machine

open Sys2Proof Sys2Proof.Machine

/-- Settles O44: a take is refused by the first check of R3 that fails, and an accepted one is followed through its
stages (`takeUnbound`, `takeScheduled`, `takeBound`) to what it leaves of each block. -/
theorem displayTakesBindOrRefuse : Obligations.DisplayTakesBindOrRefuse := by
  unfold Obligations.DisplayTakesBindOrRefuse
  intro d body s hd
  refine ⟨fun h => by simp only [takeDisplay, h], ?_⟩
  intro r hr dupPanel dupSlot carsOk old t
  refine ⟨fun hb hc => takeDisplay_refused hr (displayRefusal_car hb hc), fun hb hc hp =>
    takeDisplay_refused hr (displayRefusal_dupPanel hb hc ((panelTaken_iff hb).mpr hp)), fun hb hc hp hs => ?_, ?_⟩
  · exact takeDisplay_refused hr (displayRefusal_dupSlot hb hc
      (Bool.eq_false_iff.mpr fun h => hp ((panelTaken_iff hb).mp h)) ((slotTaken_iff hb).mpr hs))
  intro passes
  have untaken : r.status = .bound → s.panelTaken d r = false := fun hb =>
    Bool.eq_false_iff.mpr fun h => (passes hb).2.1 ((panelTaken_iff hb).mp h)
  have accepted := takeDisplay_accepted (s := s) (d := d) hr (displayRefusal_none fun hb =>
    ⟨(passes hb).1, untaken hb,
      Bool.eq_false_iff.mpr fun h => (passes hb).2.2 ((slotTaken_iff hb).mp h)⟩)
  have after : t = acceptDisplay d r s := congrArg Prod.fst accepted
  have range := displayFields_inRange hr
  have slots : ∀ n f, r.slot = some (n, f) → n < 128 := fun n f h =>
    (range (slot_eq_some.mp h).1).2.2 n f (slot_eq_some.mp h).2
  have free : PanelFree d r (takeUnbound d r s) := takeUnbound_free untaken
  rw [after]
  refine ⟨congrArg Prod.snd accepted, acceptDisplay_display hd, fun e he => acceptDisplay_display_ne he,
    fun e he => acceptDisplay_lantern_ne he, acceptDisplay_lantern_self hd, acceptDisplay_asked hd,
    fun hb hp => acceptDisplay_entered hb hp (range hb).1 (range hb).2.1,
    fun k a ho hk ha hn => acceptDisplay_left ho hk ha hn fun hb => (range hb).2.1, ?_⟩
  intro steady raised
  refine ⟨fun m => acceptDisplay_session_other free, ?_, ?_, ?_⟩
  · intro n f ho hn h x cancelled
    obtain ⟨marked, quiet, gone⟩ := acceptDisplay_unbound hn ho h slots free
    refine ⟨marked, fun st => ?_, gone⟩
    exact (unbindCancel_events ho).trans (quiet st)
  · intro n f h ho
    exact acceptDisplay_bound hd (slots n f h) h ho free
  · intro n f h ho x moved y
    have kept : y = x.keptOver (samePanel old r) := by
      simp only [y, Session.keptOver, Session.unblocked_offline]
    have lowered : raised = false → ¬ (s.zone r.zone).priority = .evacuate := fun h =>
      beq_eq_false_iff_ne.mp h
    have raises : raised = true → (s.zone r.zone).priority = .evacuate := fun h => beq_iff_eq.mp h
    obtain ⟨stays, clears, sets, cancels, marked⟩ := acceptDisplay_kept h ho (slots n f h) free
    rw [← kept] at stays clears sets cancels
    refine ⟨fun hm => ⟨(stays hm).1, fun st => ((stays hm).2 st).1⟩,
      fun hm hz => ⟨fun st => ((clears hm (lowered hz)).2 st).1, ?_⟩,
      fun hm hz he => ?_, fun hm hz he => ?_,
      fun hm hz he hw st => (cancels hm (raises hz) he hw st).1, marked⟩
    · rw [(clears hm (lowered hz)).1, Session.unblocked_evac]
    · rw [sets hm (raises hz), Session.blockedFor_evac_set he]
    · rw [sets hm (raises hz), Session.blockedFor_evac he]
end
